-- ==== Sys2Proof/Word.lean ====
section
/-! DEFINITION. The two widths of the CORE (spec/00_scope.md R6, R7): bytes (registers, memory cells) and words
(the PC, bus addresses). Arithmetic on both is the wrapping arithmetic of `BitVec`, which is the `+8`, `-8`, `+16`
of R7. -/

namespace Sys2Proof

/-- `DATA_W` = 8: A, X, Y, SP, P and a memory cell (R6, R20, R51). -/
abbrev Byte := BitVec 8

/-- `ADDR_W` = 16: PC and a bus address (R6, R24, R50). -/
abbrev Word := BitVec 16

end Sys2Proof
end

