-- ==== Sys2Proof/Config.lean ====
section
/-! DEFINITION. What is fixed for the machine and is not state (spec/00_scope.md R6, spec/10_state.md R36): the
vocabulary of the OpcodeTable (mnemonics, addressing-mode tags, operand fields, table entries) and the OPEN
parameters. The table's rows stand in Decode.lean. -/

namespace Sys2Proof

/-- The 56 mnemonics of spec/30_encoding.md R85, spelled as the table spells them. -/
inductive Mnemonic
  | ADC | AND | ASL | BCC | BCS | BEQ | BIT | BMI | BNE | BPL | BRK | BVC | BVS | CLC | CLD | CLI | CLV | CMP | CPX
  | CPY | DEC | DEX | DEY | EOR | INC | INX | INY | JMP | JSR | LDA | LDX | LDY | LSR | NOP | ORA | PHA | PHP | PLA
  | PLP | ROL | ROR | RTI | RTS | SBC | SEC | SED | SEI | STA | STX | STY | TAX | TAY | TSX | TXA | TXS | TYA
  deriving DecidableEq, Repr

/-- The thirteen addressing-mode tags of spec/30_encoding.md R82. -/
inductive Mode
  | IMP | ACC | IMM | ZP | ZPX | ZPY | ABS | ABX | ABY | IND | IZX | IZY | REL
  deriving DecidableEq, Repr

/-- An operand of a mode whose EA is the address of a data byte, with its operand field `d8` or `a16` (R82, R83).
JMP and JSR use `abs` too: their EA is the target itself. -/
inductive MemOperand
  | zp (d8 : Byte)
  | zpx (d8 : Byte)
  | zpy (d8 : Byte)
  | abs (a16 : Word)
  | abx (a16 : Word)
  | aby (a16 : Word)
  | izx (d8 : Byte)
  | izy (d8 : Byte)
  deriving DecidableEq, Repr

/-- An instruction's operand: one form for each mode tag of R82 (the eight of `MemOperand` under `mem`). -/
inductive Operand
  | imp
  | acc
  | imm (d8 : Byte)
  | mem (m : MemOperand)
  | ind (a16 : Word)
  | rel (d8 : Byte)
  deriving DecidableEq, Repr

/-- An "OpcodeEntry": "immutable tuple of (opcode byte, instruction length in bytes, base cycle cost, addressing
mode tag)" (R80), with the mnemonic R84's lookup gives. -/
structure OpcodeEntry where
  opcode   : Byte
  mnemonic : Mnemonic
  mode     : Mode
  length   : Nat
  cycles   : Nat
  deriving DecidableEq, Repr

/-- The OPEN parameters of the step and of reset (R6): `SP_RESET`, `P_RESET`, `CYC`. Claims quantify over a
`Config`; the spec's defaults are `Config.default` in Decode.lean. `BUDGET`, `OBSERVER` and `ORIGIN` are arguments
of the host's operations. -/
structure Config where
  spReset : Byte
  pReset  : Byte
  cyc     : Byte → Nat

/-- Default of `SP_RESET` (R6, R291). DESIGN CHOICE for `State.reset`, unsafe: log 4. -/
def spResetDefault : Byte := 0xFD#8

/-- Default of `P_RESET` (R6, R291): I and bit 5 set. DESIGN CHOICE for `State.reset`, unsafe: log 5. -/
def pResetDefault : Byte := 0x24#8

end Sys2Proof
end

