-- ==== Sys2Proof/Syntax.lean ====
section
/-! DEFINITION. The instructions: one constructor for each of the 151 rows of spec/opcode_table.json
(spec/30_encoding.md R85). A constructor is named by its mnemonic and, where the mnemonic has several modes, its
mode tag of R82. Its argument is the operand field of R81: `d8`, one byte, or `a16`, a 16-bit word (low byte first in
memory). -/

namespace Sys2Proof

/-- One opcode-table row with its operand field. Every bit of an operand field is significant (R88), so every term
is well formed; which mnemonic goes with which mode is checked on `Source` (WellFormed.lean). -/
inductive Instr
  -- Loads, stores and transfers (41_load_store_transfer.md)
  | ldaImm (d8 : Byte)
  | ldaZp (d8 : Byte)
  | ldaZpx (d8 : Byte)
  | ldaAbs (a16 : Word)
  | ldaAbx (a16 : Word)
  | ldaAby (a16 : Word)
  | ldaIzx (d8 : Byte)
  | ldaIzy (d8 : Byte)
  | ldxImm (d8 : Byte)
  | ldxZp (d8 : Byte)
  | ldxZpy (d8 : Byte)
  | ldxAbs (a16 : Word)
  | ldxAby (a16 : Word)
  | ldyImm (d8 : Byte)
  | ldyZp (d8 : Byte)
  | ldyZpx (d8 : Byte)
  | ldyAbs (a16 : Word)
  | ldyAbx (a16 : Word)
  | staZp (d8 : Byte)
  | staZpx (d8 : Byte)
  | staAbs (a16 : Word)
  | staAbx (a16 : Word)
  | staAby (a16 : Word)
  | staIzx (d8 : Byte)
  | staIzy (d8 : Byte)
  | stxZp (d8 : Byte)
  | stxZpy (d8 : Byte)
  | stxAbs (a16 : Word)
  | styZp (d8 : Byte)
  | styZpx (d8 : Byte)
  | styAbs (a16 : Word)
  | tax
  | tay
  | txa
  | tya
  | tsx
  | txs
  -- Increments, decrements, logic, bit test (42_incdec_logic.md)
  | incZp (d8 : Byte)
  | incZpx (d8 : Byte)
  | incAbs (a16 : Word)
  | incAbx (a16 : Word)
  | inx
  | iny
  | decZp (d8 : Byte)
  | decZpx (d8 : Byte)
  | decAbs (a16 : Word)
  | decAbx (a16 : Word)
  | dex
  | dey
  | andImm (d8 : Byte)
  | andZp (d8 : Byte)
  | andZpx (d8 : Byte)
  | andAbs (a16 : Word)
  | andAbx (a16 : Word)
  | andAby (a16 : Word)
  | andIzx (d8 : Byte)
  | andIzy (d8 : Byte)
  | oraImm (d8 : Byte)
  | oraZp (d8 : Byte)
  | oraZpx (d8 : Byte)
  | oraAbs (a16 : Word)
  | oraAbx (a16 : Word)
  | oraAby (a16 : Word)
  | oraIzx (d8 : Byte)
  | oraIzy (d8 : Byte)
  | eorImm (d8 : Byte)
  | eorZp (d8 : Byte)
  | eorZpx (d8 : Byte)
  | eorAbs (a16 : Word)
  | eorAbx (a16 : Word)
  | eorAby (a16 : Word)
  | eorIzx (d8 : Byte)
  | eorIzy (d8 : Byte)
  | bitZp (d8 : Byte)
  | bitAbs (a16 : Word)
  -- Arithmetic and compare (43_arithmetic_compare.md)
  | adcImm (d8 : Byte)
  | adcZp (d8 : Byte)
  | adcZpx (d8 : Byte)
  | adcAbs (a16 : Word)
  | adcAbx (a16 : Word)
  | adcAby (a16 : Word)
  | adcIzx (d8 : Byte)
  | adcIzy (d8 : Byte)
  | sbcImm (d8 : Byte)
  | sbcZp (d8 : Byte)
  | sbcZpx (d8 : Byte)
  | sbcAbs (a16 : Word)
  | sbcAbx (a16 : Word)
  | sbcAby (a16 : Word)
  | sbcIzx (d8 : Byte)
  | sbcIzy (d8 : Byte)
  | cmpImm (d8 : Byte)
  | cmpZp (d8 : Byte)
  | cmpZpx (d8 : Byte)
  | cmpAbs (a16 : Word)
  | cmpAbx (a16 : Word)
  | cmpAby (a16 : Word)
  | cmpIzx (d8 : Byte)
  | cmpIzy (d8 : Byte)
  | cpxImm (d8 : Byte)
  | cpxZp (d8 : Byte)
  | cpxAbs (a16 : Word)
  | cpyImm (d8 : Byte)
  | cpyZp (d8 : Byte)
  | cpyAbs (a16 : Word)
  -- Shifts and rotates (44_shift_rotate.md)
  | aslAcc
  | aslZp (d8 : Byte)
  | aslZpx (d8 : Byte)
  | aslAbs (a16 : Word)
  | aslAbx (a16 : Word)
  | lsrAcc
  | lsrZp (d8 : Byte)
  | lsrZpx (d8 : Byte)
  | lsrAbs (a16 : Word)
  | lsrAbx (a16 : Word)
  | rolAcc
  | rolZp (d8 : Byte)
  | rolZpx (d8 : Byte)
  | rolAbs (a16 : Word)
  | rolAbx (a16 : Word)
  | rorAcc
  | rorZp (d8 : Byte)
  | rorZpx (d8 : Byte)
  | rorAbs (a16 : Word)
  | rorAbx (a16 : Word)
  -- Branches, jumps, call and return (45_branch_jump_call.md)
  | bcc (d8 : Byte)
  | bcs (d8 : Byte)
  | beq (d8 : Byte)
  | bne (d8 : Byte)
  | bmi (d8 : Byte)
  | bpl (d8 : Byte)
  | bvc (d8 : Byte)
  | bvs (d8 : Byte)
  | jsr (a16 : Word)
  | rts
  | jmpAbs (a16 : Word)
  | jmpInd (a16 : Word)
  -- Stack, flag and system instructions (46_stack_flag_system.md)
  | pha
  | php
  | pla
  | plp
  | clc
  | sec
  | cli
  | sei
  | cld
  | sed
  | clv
  | nop
  | brk
  | rti
  deriving DecidableEq, Repr

end Sys2Proof
end

