-- ==== Sys2Proof/WellFormed.lean ====
section
/-! DEFINITION. What can be ill formed on this hardware and is checked before it is used: a mnemonic with an operand
shape it does not have (spec/30_encoding.md R85, R90), a parameter set whose P_RESET lacks bit 5 (spec/00_scope.md R6),
a cycle budget of `some 0` (spec/40_fetch_execute_addressing.md R125), and a program load that runs past the end of
the address space (spec/70_reset_and_hazards.md R296). -/

namespace Sys2Proof

/-- The mode tags each mnemonic has in the OpcodeTable (R85, R86). -/
def Mnemonic.modes : Mnemonic → List Mode
  | .LDA | .AND | .ORA | .EOR | .ADC | .SBC | .CMP => [.IMM, .ZP, .ZPX, .ABS, .ABX, .ABY, .IZX, .IZY]
  | .LDX => [.IMM, .ZP, .ZPY, .ABS, .ABY]
  | .LDY => [.IMM, .ZP, .ZPX, .ABS, .ABX]
  | .STA => [.ZP, .ZPX, .ABS, .ABX, .ABY, .IZX, .IZY]
  | .STX => [.ZP, .ZPY, .ABS]
  | .STY => [.ZP, .ZPX, .ABS]
  | .TAX | .TAY | .TXA | .TYA | .TSX | .TXS | .INX | .INY | .DEX | .DEY | .RTS | .PHA | .PHP | .PLA
  | .PLP | .CLC | .SEC | .CLI | .SEI | .CLD | .SED | .CLV | .NOP | .BRK | .RTI => [.IMP]
  | .INC | .DEC => [.ZP, .ZPX, .ABS, .ABX]
  | .BIT => [.ZP, .ABS]
  | .CPX | .CPY => [.IMM, .ZP, .ABS]
  | .ASL | .LSR | .ROL | .ROR => [.ACC, .ZP, .ZPX, .ABS, .ABX]
  | .BCC | .BCS | .BEQ | .BNE | .BMI | .BPL | .BVC | .BVS => [.REL]
  | .JSR => [.ABS]
  | .JMP => [.ABS, .IND]

/-- The mode tag of an operand form (R82). -/
def Operand.mode : Operand → Mode
  | .imp => .IMP
  | .acc => .ACC
  | .imm _ => .IMM
  | .mem (.zp _) => .ZP
  | .mem (.zpx _) => .ZPX
  | .mem (.zpy _) => .ZPY
  | .mem (.abs _) => .ABS
  | .mem (.abx _) => .ABX
  | .mem (.aby _) => .ABY
  | .ind _ => .IND
  | .mem (.izx _) => .IZX
  | .mem (.izy _) => .IZY
  | .rel _ => .REL

/-- A written instruction: a mnemonic and an operand whose shape selects the mode (R89, R90). -/
structure Source where
  mnemonic : Mnemonic
  operand  : Operand
  deriving DecidableEq, Repr

/-- A mnemonic with a mode it has in the OpcodeTable "stands for exactly one opcode byte" (R90); any other pair, such
as STA with an immediate (R143: "There is no immediate form"), is no instruction. -/
def Source.wf (s : Source) : Bool := s.mnemonic.modes.contains s.operand.mode

/-- The one condition on the OPEN parameters: "P_RESET[5] = 1 required" (R290). -/
def Config.wf (c : Config) : Bool := c.pReset.getLsbD 5

/-- `BUDGET` is `none` or `some b` with `b >= 1` (R125; D17): `some 0` is not admitted. -/
def budgetWf : Option Nat → Bool
  | none => true
  | some b => decide (1 ≤ b)

/-- The loads a model admits: those with `start + len(bytes) <= 65536` (R296; D18). -/
def loadFits (start : Word) (bytes : List Byte) : Bool := decide (start.toNat + bytes.length ≤ 65536)

end Sys2Proof
end

