-- ==== Sys2Proof/Decode.lean ====
section
/-! DEFINITION. The OpcodeTable, the decoder and the encoder (spec/30_encoding.md R80 to R91). Decoding is one lookup of
the whole opcode byte (R84), then the operand field the mode has (R81, R83). The encoder's opcode bytes are written out
a second time, by mnemonic as R85 lists them; the table's rows stand in opcode order as R86 maps them. -/

namespace Sys2Proof

/-- `{hi, lo}`: the word with high byte `hi` and low byte `lo` (R7). -/
def wordOfBytes (hi lo : Byte) : Word := hi ++ lo

/-- `w[7:0]`. -/
def loByte (w : Word) : Byte := w.extractLsb' 0 8

/-- `w[15:8]`. -/
def hiByte (w : Word) : Byte := w.extractLsb' 8 8

/-- The length in bytes that each mode has (R81). -/
def Mode.length : Mode → Nat
  | .IMP | .ACC => 1
  | .IMM | .ZP | .ZPX | .ZPY | .IZX | .IZY | .REL => 2
  | .ABS | .ABX | .ABY | .IND => 3

/-- Rows 0x00 to 0x3F of the OpcodeTable (R85, R86): opcode, mnemonic, mode, length, base cycles. -/
def legal0x : List OpcodeEntry := [
  ⟨0x00#8, .BRK, .IMP, 1, 7⟩, ⟨0x01#8, .ORA, .IZX, 2, 6⟩, ⟨0x05#8, .ORA, .ZP, 2, 3⟩,
  ⟨0x06#8, .ASL, .ZP, 2, 5⟩, ⟨0x08#8, .PHP, .IMP, 1, 3⟩, ⟨0x09#8, .ORA, .IMM, 2, 2⟩,
  ⟨0x0A#8, .ASL, .ACC, 1, 2⟩, ⟨0x0D#8, .ORA, .ABS, 3, 4⟩, ⟨0x0E#8, .ASL, .ABS, 3, 6⟩,
  ⟨0x10#8, .BPL, .REL, 2, 2⟩, ⟨0x11#8, .ORA, .IZY, 2, 5⟩, ⟨0x15#8, .ORA, .ZPX, 2, 4⟩,
  ⟨0x16#8, .ASL, .ZPX, 2, 6⟩, ⟨0x18#8, .CLC, .IMP, 1, 2⟩, ⟨0x19#8, .ORA, .ABY, 3, 4⟩,
  ⟨0x1D#8, .ORA, .ABX, 3, 4⟩, ⟨0x1E#8, .ASL, .ABX, 3, 7⟩, ⟨0x20#8, .JSR, .ABS, 3, 6⟩,
  ⟨0x21#8, .AND, .IZX, 2, 6⟩, ⟨0x24#8, .BIT, .ZP, 2, 3⟩, ⟨0x25#8, .AND, .ZP, 2, 3⟩,
  ⟨0x26#8, .ROL, .ZP, 2, 5⟩, ⟨0x28#8, .PLP, .IMP, 1, 4⟩, ⟨0x29#8, .AND, .IMM, 2, 2⟩,
  ⟨0x2A#8, .ROL, .ACC, 1, 2⟩, ⟨0x2C#8, .BIT, .ABS, 3, 4⟩, ⟨0x2D#8, .AND, .ABS, 3, 4⟩,
  ⟨0x2E#8, .ROL, .ABS, 3, 6⟩, ⟨0x30#8, .BMI, .REL, 2, 2⟩, ⟨0x31#8, .AND, .IZY, 2, 5⟩,
  ⟨0x35#8, .AND, .ZPX, 2, 4⟩, ⟨0x36#8, .ROL, .ZPX, 2, 6⟩, ⟨0x38#8, .SEC, .IMP, 1, 2⟩,
  ⟨0x39#8, .AND, .ABY, 3, 4⟩, ⟨0x3D#8, .AND, .ABX, 3, 4⟩, ⟨0x3E#8, .ROL, .ABX, 3, 7⟩]

/-- Rows 0x40 to 0x7F of the OpcodeTable (R85, R86): opcode, mnemonic, mode, length, base cycles. -/
def legal4x : List OpcodeEntry := [
  ⟨0x40#8, .RTI, .IMP, 1, 6⟩, ⟨0x41#8, .EOR, .IZX, 2, 6⟩, ⟨0x45#8, .EOR, .ZP, 2, 3⟩,
  ⟨0x46#8, .LSR, .ZP, 2, 5⟩, ⟨0x48#8, .PHA, .IMP, 1, 3⟩, ⟨0x49#8, .EOR, .IMM, 2, 2⟩,
  ⟨0x4A#8, .LSR, .ACC, 1, 2⟩, ⟨0x4C#8, .JMP, .ABS, 3, 3⟩, ⟨0x4D#8, .EOR, .ABS, 3, 4⟩,
  ⟨0x4E#8, .LSR, .ABS, 3, 6⟩, ⟨0x50#8, .BVC, .REL, 2, 2⟩, ⟨0x51#8, .EOR, .IZY, 2, 5⟩,
  ⟨0x55#8, .EOR, .ZPX, 2, 4⟩, ⟨0x56#8, .LSR, .ZPX, 2, 6⟩, ⟨0x58#8, .CLI, .IMP, 1, 2⟩,
  ⟨0x59#8, .EOR, .ABY, 3, 4⟩, ⟨0x5D#8, .EOR, .ABX, 3, 4⟩, ⟨0x5E#8, .LSR, .ABX, 3, 7⟩,
  ⟨0x60#8, .RTS, .IMP, 1, 6⟩, ⟨0x61#8, .ADC, .IZX, 2, 6⟩, ⟨0x65#8, .ADC, .ZP, 2, 3⟩,
  ⟨0x66#8, .ROR, .ZP, 2, 5⟩, ⟨0x68#8, .PLA, .IMP, 1, 4⟩, ⟨0x69#8, .ADC, .IMM, 2, 2⟩,
  ⟨0x6A#8, .ROR, .ACC, 1, 2⟩, ⟨0x6C#8, .JMP, .IND, 3, 5⟩, ⟨0x6D#8, .ADC, .ABS, 3, 4⟩,
  ⟨0x6E#8, .ROR, .ABS, 3, 6⟩, ⟨0x70#8, .BVS, .REL, 2, 2⟩, ⟨0x71#8, .ADC, .IZY, 2, 5⟩,
  ⟨0x75#8, .ADC, .ZPX, 2, 4⟩, ⟨0x76#8, .ROR, .ZPX, 2, 6⟩, ⟨0x78#8, .SEI, .IMP, 1, 2⟩,
  ⟨0x79#8, .ADC, .ABY, 3, 4⟩, ⟨0x7D#8, .ADC, .ABX, 3, 4⟩, ⟨0x7E#8, .ROR, .ABX, 3, 7⟩]

/-- Rows 0x80 to 0xBF of the OpcodeTable (R85, R86): opcode, mnemonic, mode, length, base cycles. -/
def legal8x : List OpcodeEntry := [
  ⟨0x81#8, .STA, .IZX, 2, 6⟩, ⟨0x84#8, .STY, .ZP, 2, 3⟩, ⟨0x85#8, .STA, .ZP, 2, 3⟩,
  ⟨0x86#8, .STX, .ZP, 2, 3⟩, ⟨0x88#8, .DEY, .IMP, 1, 2⟩, ⟨0x8A#8, .TXA, .IMP, 1, 2⟩,
  ⟨0x8C#8, .STY, .ABS, 3, 4⟩, ⟨0x8D#8, .STA, .ABS, 3, 4⟩, ⟨0x8E#8, .STX, .ABS, 3, 4⟩,
  ⟨0x90#8, .BCC, .REL, 2, 2⟩, ⟨0x91#8, .STA, .IZY, 2, 6⟩, ⟨0x94#8, .STY, .ZPX, 2, 4⟩,
  ⟨0x95#8, .STA, .ZPX, 2, 4⟩, ⟨0x96#8, .STX, .ZPY, 2, 4⟩, ⟨0x98#8, .TYA, .IMP, 1, 2⟩,
  ⟨0x99#8, .STA, .ABY, 3, 5⟩, ⟨0x9A#8, .TXS, .IMP, 1, 2⟩, ⟨0x9D#8, .STA, .ABX, 3, 5⟩,
  ⟨0xA0#8, .LDY, .IMM, 2, 2⟩, ⟨0xA1#8, .LDA, .IZX, 2, 6⟩, ⟨0xA2#8, .LDX, .IMM, 2, 2⟩,
  ⟨0xA4#8, .LDY, .ZP, 2, 3⟩, ⟨0xA5#8, .LDA, .ZP, 2, 3⟩, ⟨0xA6#8, .LDX, .ZP, 2, 3⟩,
  ⟨0xA8#8, .TAY, .IMP, 1, 2⟩, ⟨0xA9#8, .LDA, .IMM, 2, 2⟩, ⟨0xAA#8, .TAX, .IMP, 1, 2⟩,
  ⟨0xAC#8, .LDY, .ABS, 3, 4⟩, ⟨0xAD#8, .LDA, .ABS, 3, 4⟩, ⟨0xAE#8, .LDX, .ABS, 3, 4⟩,
  ⟨0xB0#8, .BCS, .REL, 2, 2⟩, ⟨0xB1#8, .LDA, .IZY, 2, 5⟩, ⟨0xB4#8, .LDY, .ZPX, 2, 4⟩,
  ⟨0xB5#8, .LDA, .ZPX, 2, 4⟩, ⟨0xB6#8, .LDX, .ZPY, 2, 4⟩, ⟨0xB8#8, .CLV, .IMP, 1, 2⟩,
  ⟨0xB9#8, .LDA, .ABY, 3, 4⟩, ⟨0xBA#8, .TSX, .IMP, 1, 2⟩, ⟨0xBC#8, .LDY, .ABX, 3, 4⟩,
  ⟨0xBD#8, .LDA, .ABX, 3, 4⟩, ⟨0xBE#8, .LDX, .ABY, 3, 4⟩]

/-- Rows 0xC0 to 0xFF of the OpcodeTable (R85, R86): opcode, mnemonic, mode, length, base cycles. -/
def legalCx : List OpcodeEntry := [
  ⟨0xC0#8, .CPY, .IMM, 2, 2⟩, ⟨0xC1#8, .CMP, .IZX, 2, 6⟩, ⟨0xC4#8, .CPY, .ZP, 2, 3⟩,
  ⟨0xC5#8, .CMP, .ZP, 2, 3⟩, ⟨0xC6#8, .DEC, .ZP, 2, 5⟩, ⟨0xC8#8, .INY, .IMP, 1, 2⟩,
  ⟨0xC9#8, .CMP, .IMM, 2, 2⟩, ⟨0xCA#8, .DEX, .IMP, 1, 2⟩, ⟨0xCC#8, .CPY, .ABS, 3, 4⟩,
  ⟨0xCD#8, .CMP, .ABS, 3, 4⟩, ⟨0xCE#8, .DEC, .ABS, 3, 6⟩, ⟨0xD0#8, .BNE, .REL, 2, 2⟩,
  ⟨0xD1#8, .CMP, .IZY, 2, 5⟩, ⟨0xD5#8, .CMP, .ZPX, 2, 4⟩, ⟨0xD6#8, .DEC, .ZPX, 2, 6⟩,
  ⟨0xD8#8, .CLD, .IMP, 1, 2⟩, ⟨0xD9#8, .CMP, .ABY, 3, 4⟩, ⟨0xDD#8, .CMP, .ABX, 3, 4⟩,
  ⟨0xDE#8, .DEC, .ABX, 3, 7⟩, ⟨0xE0#8, .CPX, .IMM, 2, 2⟩, ⟨0xE1#8, .SBC, .IZX, 2, 6⟩,
  ⟨0xE4#8, .CPX, .ZP, 2, 3⟩, ⟨0xE5#8, .SBC, .ZP, 2, 3⟩, ⟨0xE6#8, .INC, .ZP, 2, 5⟩,
  ⟨0xE8#8, .INX, .IMP, 1, 2⟩, ⟨0xE9#8, .SBC, .IMM, 2, 2⟩, ⟨0xEA#8, .NOP, .IMP, 1, 2⟩,
  ⟨0xEC#8, .CPX, .ABS, 3, 4⟩, ⟨0xED#8, .SBC, .ABS, 3, 4⟩, ⟨0xEE#8, .INC, .ABS, 3, 6⟩,
  ⟨0xF0#8, .BEQ, .REL, 2, 2⟩, ⟨0xF1#8, .SBC, .IZY, 2, 5⟩, ⟨0xF5#8, .SBC, .ZPX, 2, 4⟩,
  ⟨0xF6#8, .INC, .ZPX, 2, 6⟩, ⟨0xF8#8, .SED, .IMP, 1, 2⟩, ⟨0xF9#8, .SBC, .ABY, 3, 4⟩,
  ⟨0xFD#8, .SBC, .ABX, 3, 4⟩, ⟨0xFE#8, .INC, .ABX, 3, 7⟩]

/-- `LEGAL`: the OpcodeTable's 151 entries (R85; D1: UNVERIFIED against the source's own table, unsafe, log 1). "Built
once, never mutated afterward" (R84). -/
def legal : List OpcodeEntry := legal0x ++ legal4x ++ legal8x ++ legalCx

/-- "lookup by raw opcode byte" (R84); `none` is an illegal byte (R87). -/
def entryOf? (op : Byte) : Option OpcodeEntry := legal.find? fun e => decide (e.opcode = op)

/-- The base cycle column (R91): the default of `CYC`, 0 where there is no entry (never added: R107). -/
def baseCycles (op : Byte) : Nat := ((entryOf? op).map OpcodeEntry.cycles).getD 0

/-- The defaults of the OPEN parameters (R6). DESIGN CHOICE, unsafe: log 4, 5, 6. -/
def Config.default : Config := { spReset := spResetDefault, pReset := pResetDefault, cyc := baseCycles }

/-- The mnemonic and operand of an instruction. -/
def Instr.source : Instr → Source
  | .ldaImm d8 => ⟨.LDA, .imm d8⟩
  | .ldaZp d8 => ⟨.LDA, .mem (.zp d8)⟩
  | .ldaZpx d8 => ⟨.LDA, .mem (.zpx d8)⟩
  | .ldaAbs a16 => ⟨.LDA, .mem (.abs a16)⟩
  | .ldaAbx a16 => ⟨.LDA, .mem (.abx a16)⟩
  | .ldaAby a16 => ⟨.LDA, .mem (.aby a16)⟩
  | .ldaIzx d8 => ⟨.LDA, .mem (.izx d8)⟩
  | .ldaIzy d8 => ⟨.LDA, .mem (.izy d8)⟩
  | .ldxImm d8 => ⟨.LDX, .imm d8⟩
  | .ldxZp d8 => ⟨.LDX, .mem (.zp d8)⟩
  | .ldxZpy d8 => ⟨.LDX, .mem (.zpy d8)⟩
  | .ldxAbs a16 => ⟨.LDX, .mem (.abs a16)⟩
  | .ldxAby a16 => ⟨.LDX, .mem (.aby a16)⟩
  | .ldyImm d8 => ⟨.LDY, .imm d8⟩
  | .ldyZp d8 => ⟨.LDY, .mem (.zp d8)⟩
  | .ldyZpx d8 => ⟨.LDY, .mem (.zpx d8)⟩
  | .ldyAbs a16 => ⟨.LDY, .mem (.abs a16)⟩
  | .ldyAbx a16 => ⟨.LDY, .mem (.abx a16)⟩
  | .staZp d8 => ⟨.STA, .mem (.zp d8)⟩
  | .staZpx d8 => ⟨.STA, .mem (.zpx d8)⟩
  | .staAbs a16 => ⟨.STA, .mem (.abs a16)⟩
  | .staAbx a16 => ⟨.STA, .mem (.abx a16)⟩
  | .staAby a16 => ⟨.STA, .mem (.aby a16)⟩
  | .staIzx d8 => ⟨.STA, .mem (.izx d8)⟩
  | .staIzy d8 => ⟨.STA, .mem (.izy d8)⟩
  | .stxZp d8 => ⟨.STX, .mem (.zp d8)⟩
  | .stxZpy d8 => ⟨.STX, .mem (.zpy d8)⟩
  | .stxAbs a16 => ⟨.STX, .mem (.abs a16)⟩
  | .styZp d8 => ⟨.STY, .mem (.zp d8)⟩
  | .styZpx d8 => ⟨.STY, .mem (.zpx d8)⟩
  | .styAbs a16 => ⟨.STY, .mem (.abs a16)⟩
  | .tax => ⟨.TAX, .imp⟩
  | .tay => ⟨.TAY, .imp⟩
  | .txa => ⟨.TXA, .imp⟩
  | .tya => ⟨.TYA, .imp⟩
  | .tsx => ⟨.TSX, .imp⟩
  | .txs => ⟨.TXS, .imp⟩
  | .incZp d8 => ⟨.INC, .mem (.zp d8)⟩
  | .incZpx d8 => ⟨.INC, .mem (.zpx d8)⟩
  | .incAbs a16 => ⟨.INC, .mem (.abs a16)⟩
  | .incAbx a16 => ⟨.INC, .mem (.abx a16)⟩
  | .inx => ⟨.INX, .imp⟩
  | .iny => ⟨.INY, .imp⟩
  | .decZp d8 => ⟨.DEC, .mem (.zp d8)⟩
  | .decZpx d8 => ⟨.DEC, .mem (.zpx d8)⟩
  | .decAbs a16 => ⟨.DEC, .mem (.abs a16)⟩
  | .decAbx a16 => ⟨.DEC, .mem (.abx a16)⟩
  | .dex => ⟨.DEX, .imp⟩
  | .dey => ⟨.DEY, .imp⟩
  | .andImm d8 => ⟨.AND, .imm d8⟩
  | .andZp d8 => ⟨.AND, .mem (.zp d8)⟩
  | .andZpx d8 => ⟨.AND, .mem (.zpx d8)⟩
  | .andAbs a16 => ⟨.AND, .mem (.abs a16)⟩
  | .andAbx a16 => ⟨.AND, .mem (.abx a16)⟩
  | .andAby a16 => ⟨.AND, .mem (.aby a16)⟩
  | .andIzx d8 => ⟨.AND, .mem (.izx d8)⟩
  | .andIzy d8 => ⟨.AND, .mem (.izy d8)⟩
  | .oraImm d8 => ⟨.ORA, .imm d8⟩
  | .oraZp d8 => ⟨.ORA, .mem (.zp d8)⟩
  | .oraZpx d8 => ⟨.ORA, .mem (.zpx d8)⟩
  | .oraAbs a16 => ⟨.ORA, .mem (.abs a16)⟩
  | .oraAbx a16 => ⟨.ORA, .mem (.abx a16)⟩
  | .oraAby a16 => ⟨.ORA, .mem (.aby a16)⟩
  | .oraIzx d8 => ⟨.ORA, .mem (.izx d8)⟩
  | .oraIzy d8 => ⟨.ORA, .mem (.izy d8)⟩
  | .eorImm d8 => ⟨.EOR, .imm d8⟩
  | .eorZp d8 => ⟨.EOR, .mem (.zp d8)⟩
  | .eorZpx d8 => ⟨.EOR, .mem (.zpx d8)⟩
  | .eorAbs a16 => ⟨.EOR, .mem (.abs a16)⟩
  | .eorAbx a16 => ⟨.EOR, .mem (.abx a16)⟩
  | .eorAby a16 => ⟨.EOR, .mem (.aby a16)⟩
  | .eorIzx d8 => ⟨.EOR, .mem (.izx d8)⟩
  | .eorIzy d8 => ⟨.EOR, .mem (.izy d8)⟩
  | .bitZp d8 => ⟨.BIT, .mem (.zp d8)⟩
  | .bitAbs a16 => ⟨.BIT, .mem (.abs a16)⟩
  | .adcImm d8 => ⟨.ADC, .imm d8⟩
  | .adcZp d8 => ⟨.ADC, .mem (.zp d8)⟩
  | .adcZpx d8 => ⟨.ADC, .mem (.zpx d8)⟩
  | .adcAbs a16 => ⟨.ADC, .mem (.abs a16)⟩
  | .adcAbx a16 => ⟨.ADC, .mem (.abx a16)⟩
  | .adcAby a16 => ⟨.ADC, .mem (.aby a16)⟩
  | .adcIzx d8 => ⟨.ADC, .mem (.izx d8)⟩
  | .adcIzy d8 => ⟨.ADC, .mem (.izy d8)⟩
  | .sbcImm d8 => ⟨.SBC, .imm d8⟩
  | .sbcZp d8 => ⟨.SBC, .mem (.zp d8)⟩
  | .sbcZpx d8 => ⟨.SBC, .mem (.zpx d8)⟩
  | .sbcAbs a16 => ⟨.SBC, .mem (.abs a16)⟩
  | .sbcAbx a16 => ⟨.SBC, .mem (.abx a16)⟩
  | .sbcAby a16 => ⟨.SBC, .mem (.aby a16)⟩
  | .sbcIzx d8 => ⟨.SBC, .mem (.izx d8)⟩
  | .sbcIzy d8 => ⟨.SBC, .mem (.izy d8)⟩
  | .cmpImm d8 => ⟨.CMP, .imm d8⟩
  | .cmpZp d8 => ⟨.CMP, .mem (.zp d8)⟩
  | .cmpZpx d8 => ⟨.CMP, .mem (.zpx d8)⟩
  | .cmpAbs a16 => ⟨.CMP, .mem (.abs a16)⟩
  | .cmpAbx a16 => ⟨.CMP, .mem (.abx a16)⟩
  | .cmpAby a16 => ⟨.CMP, .mem (.aby a16)⟩
  | .cmpIzx d8 => ⟨.CMP, .mem (.izx d8)⟩
  | .cmpIzy d8 => ⟨.CMP, .mem (.izy d8)⟩
  | .cpxImm d8 => ⟨.CPX, .imm d8⟩
  | .cpxZp d8 => ⟨.CPX, .mem (.zp d8)⟩
  | .cpxAbs a16 => ⟨.CPX, .mem (.abs a16)⟩
  | .cpyImm d8 => ⟨.CPY, .imm d8⟩
  | .cpyZp d8 => ⟨.CPY, .mem (.zp d8)⟩
  | .cpyAbs a16 => ⟨.CPY, .mem (.abs a16)⟩
  | .aslAcc => ⟨.ASL, .acc⟩
  | .aslZp d8 => ⟨.ASL, .mem (.zp d8)⟩
  | .aslZpx d8 => ⟨.ASL, .mem (.zpx d8)⟩
  | .aslAbs a16 => ⟨.ASL, .mem (.abs a16)⟩
  | .aslAbx a16 => ⟨.ASL, .mem (.abx a16)⟩
  | .lsrAcc => ⟨.LSR, .acc⟩
  | .lsrZp d8 => ⟨.LSR, .mem (.zp d8)⟩
  | .lsrZpx d8 => ⟨.LSR, .mem (.zpx d8)⟩
  | .lsrAbs a16 => ⟨.LSR, .mem (.abs a16)⟩
  | .lsrAbx a16 => ⟨.LSR, .mem (.abx a16)⟩
  | .rolAcc => ⟨.ROL, .acc⟩
  | .rolZp d8 => ⟨.ROL, .mem (.zp d8)⟩
  | .rolZpx d8 => ⟨.ROL, .mem (.zpx d8)⟩
  | .rolAbs a16 => ⟨.ROL, .mem (.abs a16)⟩
  | .rolAbx a16 => ⟨.ROL, .mem (.abx a16)⟩
  | .rorAcc => ⟨.ROR, .acc⟩
  | .rorZp d8 => ⟨.ROR, .mem (.zp d8)⟩
  | .rorZpx d8 => ⟨.ROR, .mem (.zpx d8)⟩
  | .rorAbs a16 => ⟨.ROR, .mem (.abs a16)⟩
  | .rorAbx a16 => ⟨.ROR, .mem (.abx a16)⟩
  | .bcc d8 => ⟨.BCC, .rel d8⟩
  | .bcs d8 => ⟨.BCS, .rel d8⟩
  | .beq d8 => ⟨.BEQ, .rel d8⟩
  | .bne d8 => ⟨.BNE, .rel d8⟩
  | .bmi d8 => ⟨.BMI, .rel d8⟩
  | .bpl d8 => ⟨.BPL, .rel d8⟩
  | .bvc d8 => ⟨.BVC, .rel d8⟩
  | .bvs d8 => ⟨.BVS, .rel d8⟩
  | .jsr a16 => ⟨.JSR, .mem (.abs a16)⟩
  | .rts => ⟨.RTS, .imp⟩
  | .jmpAbs a16 => ⟨.JMP, .mem (.abs a16)⟩
  | .jmpInd a16 => ⟨.JMP, .ind a16⟩
  | .pha => ⟨.PHA, .imp⟩
  | .php => ⟨.PHP, .imp⟩
  | .pla => ⟨.PLA, .imp⟩
  | .plp => ⟨.PLP, .imp⟩
  | .clc => ⟨.CLC, .imp⟩
  | .sec => ⟨.SEC, .imp⟩
  | .cli => ⟨.CLI, .imp⟩
  | .sei => ⟨.SEI, .imp⟩
  | .cld => ⟨.CLD, .imp⟩
  | .sed => ⟨.SED, .imp⟩
  | .clv => ⟨.CLV, .imp⟩
  | .nop => ⟨.NOP, .imp⟩
  | .brk => ⟨.BRK, .imp⟩
  | .rti => ⟨.RTI, .imp⟩

/-- The mnemonic of an instruction. -/
def Instr.mnemonic (i : Instr) : Mnemonic := i.source.mnemonic

/-- The operand of an instruction. -/
def Instr.operand (i : Instr) : Operand := i.source.operand

/-- The addressing-mode tag of an instruction. -/
def Instr.mode (i : Instr) : Mode := i.operand.mode

/-- The length of an instruction in bytes (R80, R81). -/
def Instr.length (i : Instr) : Nat := i.mode.length

/-- An instruction's mnemonic has its mode (R85). -/
def Instr.wf (i : Instr) : Bool := i.source.wf

/-- The instruction a mnemonic and an operand stand for; none where the pair is not in the OpcodeTable (R90). -/
def Instr.ofSource? : Source → Option Instr
  | ⟨.LDA, o⟩ =>
    match o with
    | .imm d8 => some (.ldaImm d8)
    | .mem (.zp d8) => some (.ldaZp d8)
    | .mem (.zpx d8) => some (.ldaZpx d8)
    | .mem (.abs a16) => some (.ldaAbs a16)
    | .mem (.abx a16) => some (.ldaAbx a16)
    | .mem (.aby a16) => some (.ldaAby a16)
    | .mem (.izx d8) => some (.ldaIzx d8)
    | .mem (.izy d8) => some (.ldaIzy d8)
    | _ => none
  | ⟨.LDX, o⟩ =>
    match o with
    | .imm d8 => some (.ldxImm d8)
    | .mem (.zp d8) => some (.ldxZp d8)
    | .mem (.zpy d8) => some (.ldxZpy d8)
    | .mem (.abs a16) => some (.ldxAbs a16)
    | .mem (.aby a16) => some (.ldxAby a16)
    | _ => none
  | ⟨.LDY, o⟩ =>
    match o with
    | .imm d8 => some (.ldyImm d8)
    | .mem (.zp d8) => some (.ldyZp d8)
    | .mem (.zpx d8) => some (.ldyZpx d8)
    | .mem (.abs a16) => some (.ldyAbs a16)
    | .mem (.abx a16) => some (.ldyAbx a16)
    | _ => none
  | ⟨.STA, o⟩ =>
    match o with
    | .mem (.zp d8) => some (.staZp d8)
    | .mem (.zpx d8) => some (.staZpx d8)
    | .mem (.abs a16) => some (.staAbs a16)
    | .mem (.abx a16) => some (.staAbx a16)
    | .mem (.aby a16) => some (.staAby a16)
    | .mem (.izx d8) => some (.staIzx d8)
    | .mem (.izy d8) => some (.staIzy d8)
    | _ => none
  | ⟨.STX, o⟩ =>
    match o with
    | .mem (.zp d8) => some (.stxZp d8)
    | .mem (.zpy d8) => some (.stxZpy d8)
    | .mem (.abs a16) => some (.stxAbs a16)
    | _ => none
  | ⟨.STY, o⟩ =>
    match o with
    | .mem (.zp d8) => some (.styZp d8)
    | .mem (.zpx d8) => some (.styZpx d8)
    | .mem (.abs a16) => some (.styAbs a16)
    | _ => none
  | ⟨.TAX, o⟩ =>
    match o with
    | .imp => some .tax
    | _ => none
  | ⟨.TAY, o⟩ =>
    match o with
    | .imp => some .tay
    | _ => none
  | ⟨.TXA, o⟩ =>
    match o with
    | .imp => some .txa
    | _ => none
  | ⟨.TYA, o⟩ =>
    match o with
    | .imp => some .tya
    | _ => none
  | ⟨.TSX, o⟩ =>
    match o with
    | .imp => some .tsx
    | _ => none
  | ⟨.TXS, o⟩ =>
    match o with
    | .imp => some .txs
    | _ => none
  | ⟨.INC, o⟩ =>
    match o with
    | .mem (.zp d8) => some (.incZp d8)
    | .mem (.zpx d8) => some (.incZpx d8)
    | .mem (.abs a16) => some (.incAbs a16)
    | .mem (.abx a16) => some (.incAbx a16)
    | _ => none
  | ⟨.INX, o⟩ =>
    match o with
    | .imp => some .inx
    | _ => none
  | ⟨.INY, o⟩ =>
    match o with
    | .imp => some .iny
    | _ => none
  | ⟨.DEC, o⟩ =>
    match o with
    | .mem (.zp d8) => some (.decZp d8)
    | .mem (.zpx d8) => some (.decZpx d8)
    | .mem (.abs a16) => some (.decAbs a16)
    | .mem (.abx a16) => some (.decAbx a16)
    | _ => none
  | ⟨.DEX, o⟩ =>
    match o with
    | .imp => some .dex
    | _ => none
  | ⟨.DEY, o⟩ =>
    match o with
    | .imp => some .dey
    | _ => none
  | ⟨.AND, o⟩ =>
    match o with
    | .imm d8 => some (.andImm d8)
    | .mem (.zp d8) => some (.andZp d8)
    | .mem (.zpx d8) => some (.andZpx d8)
    | .mem (.abs a16) => some (.andAbs a16)
    | .mem (.abx a16) => some (.andAbx a16)
    | .mem (.aby a16) => some (.andAby a16)
    | .mem (.izx d8) => some (.andIzx d8)
    | .mem (.izy d8) => some (.andIzy d8)
    | _ => none
  | ⟨.ORA, o⟩ =>
    match o with
    | .imm d8 => some (.oraImm d8)
    | .mem (.zp d8) => some (.oraZp d8)
    | .mem (.zpx d8) => some (.oraZpx d8)
    | .mem (.abs a16) => some (.oraAbs a16)
    | .mem (.abx a16) => some (.oraAbx a16)
    | .mem (.aby a16) => some (.oraAby a16)
    | .mem (.izx d8) => some (.oraIzx d8)
    | .mem (.izy d8) => some (.oraIzy d8)
    | _ => none
  | ⟨.EOR, o⟩ =>
    match o with
    | .imm d8 => some (.eorImm d8)
    | .mem (.zp d8) => some (.eorZp d8)
    | .mem (.zpx d8) => some (.eorZpx d8)
    | .mem (.abs a16) => some (.eorAbs a16)
    | .mem (.abx a16) => some (.eorAbx a16)
    | .mem (.aby a16) => some (.eorAby a16)
    | .mem (.izx d8) => some (.eorIzx d8)
    | .mem (.izy d8) => some (.eorIzy d8)
    | _ => none
  | ⟨.BIT, o⟩ =>
    match o with
    | .mem (.zp d8) => some (.bitZp d8)
    | .mem (.abs a16) => some (.bitAbs a16)
    | _ => none
  | ⟨.ADC, o⟩ =>
    match o with
    | .imm d8 => some (.adcImm d8)
    | .mem (.zp d8) => some (.adcZp d8)
    | .mem (.zpx d8) => some (.adcZpx d8)
    | .mem (.abs a16) => some (.adcAbs a16)
    | .mem (.abx a16) => some (.adcAbx a16)
    | .mem (.aby a16) => some (.adcAby a16)
    | .mem (.izx d8) => some (.adcIzx d8)
    | .mem (.izy d8) => some (.adcIzy d8)
    | _ => none
  | ⟨.SBC, o⟩ =>
    match o with
    | .imm d8 => some (.sbcImm d8)
    | .mem (.zp d8) => some (.sbcZp d8)
    | .mem (.zpx d8) => some (.sbcZpx d8)
    | .mem (.abs a16) => some (.sbcAbs a16)
    | .mem (.abx a16) => some (.sbcAbx a16)
    | .mem (.aby a16) => some (.sbcAby a16)
    | .mem (.izx d8) => some (.sbcIzx d8)
    | .mem (.izy d8) => some (.sbcIzy d8)
    | _ => none
  | ⟨.CMP, o⟩ =>
    match o with
    | .imm d8 => some (.cmpImm d8)
    | .mem (.zp d8) => some (.cmpZp d8)
    | .mem (.zpx d8) => some (.cmpZpx d8)
    | .mem (.abs a16) => some (.cmpAbs a16)
    | .mem (.abx a16) => some (.cmpAbx a16)
    | .mem (.aby a16) => some (.cmpAby a16)
    | .mem (.izx d8) => some (.cmpIzx d8)
    | .mem (.izy d8) => some (.cmpIzy d8)
    | _ => none
  | ⟨.CPX, o⟩ =>
    match o with
    | .imm d8 => some (.cpxImm d8)
    | .mem (.zp d8) => some (.cpxZp d8)
    | .mem (.abs a16) => some (.cpxAbs a16)
    | _ => none
  | ⟨.CPY, o⟩ =>
    match o with
    | .imm d8 => some (.cpyImm d8)
    | .mem (.zp d8) => some (.cpyZp d8)
    | .mem (.abs a16) => some (.cpyAbs a16)
    | _ => none
  | ⟨.ASL, o⟩ =>
    match o with
    | .acc => some .aslAcc
    | .mem (.zp d8) => some (.aslZp d8)
    | .mem (.zpx d8) => some (.aslZpx d8)
    | .mem (.abs a16) => some (.aslAbs a16)
    | .mem (.abx a16) => some (.aslAbx a16)
    | _ => none
  | ⟨.LSR, o⟩ =>
    match o with
    | .acc => some .lsrAcc
    | .mem (.zp d8) => some (.lsrZp d8)
    | .mem (.zpx d8) => some (.lsrZpx d8)
    | .mem (.abs a16) => some (.lsrAbs a16)
    | .mem (.abx a16) => some (.lsrAbx a16)
    | _ => none
  | ⟨.ROL, o⟩ =>
    match o with
    | .acc => some .rolAcc
    | .mem (.zp d8) => some (.rolZp d8)
    | .mem (.zpx d8) => some (.rolZpx d8)
    | .mem (.abs a16) => some (.rolAbs a16)
    | .mem (.abx a16) => some (.rolAbx a16)
    | _ => none
  | ⟨.ROR, o⟩ =>
    match o with
    | .acc => some .rorAcc
    | .mem (.zp d8) => some (.rorZp d8)
    | .mem (.zpx d8) => some (.rorZpx d8)
    | .mem (.abs a16) => some (.rorAbs a16)
    | .mem (.abx a16) => some (.rorAbx a16)
    | _ => none
  | ⟨.BCC, o⟩ =>
    match o with
    | .rel d8 => some (.bcc d8)
    | _ => none
  | ⟨.BCS, o⟩ =>
    match o with
    | .rel d8 => some (.bcs d8)
    | _ => none
  | ⟨.BEQ, o⟩ =>
    match o with
    | .rel d8 => some (.beq d8)
    | _ => none
  | ⟨.BNE, o⟩ =>
    match o with
    | .rel d8 => some (.bne d8)
    | _ => none
  | ⟨.BMI, o⟩ =>
    match o with
    | .rel d8 => some (.bmi d8)
    | _ => none
  | ⟨.BPL, o⟩ =>
    match o with
    | .rel d8 => some (.bpl d8)
    | _ => none
  | ⟨.BVC, o⟩ =>
    match o with
    | .rel d8 => some (.bvc d8)
    | _ => none
  | ⟨.BVS, o⟩ =>
    match o with
    | .rel d8 => some (.bvs d8)
    | _ => none
  | ⟨.JSR, o⟩ =>
    match o with
    | .mem (.abs a16) => some (.jsr a16)
    | _ => none
  | ⟨.RTS, o⟩ =>
    match o with
    | .imp => some .rts
    | _ => none
  | ⟨.JMP, o⟩ =>
    match o with
    | .mem (.abs a16) => some (.jmpAbs a16)
    | .ind a16 => some (.jmpInd a16)
    | _ => none
  | ⟨.PHA, o⟩ =>
    match o with
    | .imp => some .pha
    | _ => none
  | ⟨.PHP, o⟩ =>
    match o with
    | .imp => some .php
    | _ => none
  | ⟨.PLA, o⟩ =>
    match o with
    | .imp => some .pla
    | _ => none
  | ⟨.PLP, o⟩ =>
    match o with
    | .imp => some .plp
    | _ => none
  | ⟨.CLC, o⟩ =>
    match o with
    | .imp => some .clc
    | _ => none
  | ⟨.SEC, o⟩ =>
    match o with
    | .imp => some .sec
    | _ => none
  | ⟨.CLI, o⟩ =>
    match o with
    | .imp => some .cli
    | _ => none
  | ⟨.SEI, o⟩ =>
    match o with
    | .imp => some .sei
    | _ => none
  | ⟨.CLD, o⟩ =>
    match o with
    | .imp => some .cld
    | _ => none
  | ⟨.SED, o⟩ =>
    match o with
    | .imp => some .sed
    | _ => none
  | ⟨.CLV, o⟩ =>
    match o with
    | .imp => some .clv
    | _ => none
  | ⟨.NOP, o⟩ =>
    match o with
    | .imp => some .nop
    | _ => none
  | ⟨.BRK, o⟩ =>
    match o with
    | .imp => some .brk
    | _ => none
  | ⟨.RTI, o⟩ =>
    match o with
    | .imp => some .rti
    | _ => none

/-- Reads the `d8` field (R81, R83). -/
def takeD8 (f : Byte → Operand) : List Byte → Option (Operand × List Byte)
  | d8 :: rest => some (f d8, rest)
  | [] => none

/-- Reads the `a16` field: byte 1 is its low byte, byte 2 its high byte (R81, R83). -/
def takeA16 (f : Word → Operand) : List Byte → Option (Operand × List Byte)
  | lo :: hi :: rest => some (f (wordOfBytes hi lo), rest)
  | _ => none

/-- The operand a mode reads from the bytes after the opcode (R81, R82); none where there are too few bytes. -/
def Mode.takeOperand (bytes : List Byte) : Mode → Option (Operand × List Byte)
  | .IMP => some (.imp, bytes)
  | .ACC => some (.acc, bytes)
  | .IMM => takeD8 (fun d8 => .imm d8) bytes
  | .ZP => takeD8 (fun d8 => .mem (.zp d8)) bytes
  | .ZPX => takeD8 (fun d8 => .mem (.zpx d8)) bytes
  | .ZPY => takeD8 (fun d8 => .mem (.zpy d8)) bytes
  | .ABS => takeA16 (fun a16 => .mem (.abs a16)) bytes
  | .ABX => takeA16 (fun a16 => .mem (.abx a16)) bytes
  | .ABY => takeA16 (fun a16 => .mem (.aby a16)) bytes
  | .IND => takeA16 (fun a16 => .ind a16) bytes
  | .IZX => takeD8 (fun d8 => .mem (.izx d8)) bytes
  | .IZY => takeD8 (fun d8 => .mem (.izy d8)) bytes
  | .REL => takeD8 (fun d8 => .rel d8) bytes

/-- Why bytes are no instruction. -/
inductive DecodeError
  /-- There is no byte at all. -/
  | noBytes
  /-- The opcode byte has no OpcodeTable entry (R87). -/
  | illegalOpcode (op : Byte)
  /-- Fewer bytes follow the opcode than its mode reads. The machine always fetches enough. -/
  | truncated (op : Byte)
  /-- The table's row pairs a mnemonic with a mode that no instruction has. No row does. -/
  | noSuchForm (m : Mnemonic) (o : Operand)
  deriving DecidableEq, Repr

/-- The instruction at the head of a byte sequence, and the bytes after it (R80, R84). -/
def decode : List Byte → Except DecodeError (Instr × List Byte)
  | [] => .error .noBytes
  | op :: rest =>
    match entryOf? op with
    | none => .error (.illegalOpcode op)
    | some e =>
      match e.mode.takeOperand rest with
      | none => .error (.truncated op)
      | some (o, rest') =>
        match Instr.ofSource? ⟨e.mnemonic, o⟩ with
        | none => .error (.noSuchForm e.mnemonic o)
        | some i => .ok (i, rest')

/-- The opcode byte of an instruction, by mnemonic and mode as R85 lists them. -/
def Instr.opcode : Instr → Byte
  | .ldaImm _ => 0xA9#8 | .ldaZp _ => 0xA5#8 | .ldaZpx _ => 0xB5#8 | .ldaAbs _ => 0xAD#8
  | .ldaAbx _ => 0xBD#8 | .ldaAby _ => 0xB9#8 | .ldaIzx _ => 0xA1#8 | .ldaIzy _ => 0xB1#8
  | .ldxImm _ => 0xA2#8 | .ldxZp _ => 0xA6#8 | .ldxZpy _ => 0xB6#8 | .ldxAbs _ => 0xAE#8
  | .ldxAby _ => 0xBE#8
  | .ldyImm _ => 0xA0#8 | .ldyZp _ => 0xA4#8 | .ldyZpx _ => 0xB4#8 | .ldyAbs _ => 0xAC#8
  | .ldyAbx _ => 0xBC#8
  | .staZp _ => 0x85#8 | .staZpx _ => 0x95#8 | .staAbs _ => 0x8D#8 | .staAbx _ => 0x9D#8
  | .staAby _ => 0x99#8 | .staIzx _ => 0x81#8 | .staIzy _ => 0x91#8
  | .stxZp _ => 0x86#8 | .stxZpy _ => 0x96#8 | .stxAbs _ => 0x8E#8
  | .styZp _ => 0x84#8 | .styZpx _ => 0x94#8 | .styAbs _ => 0x8C#8
  | .tax => 0xAA#8
  | .tay => 0xA8#8
  | .txa => 0x8A#8
  | .tya => 0x98#8
  | .tsx => 0xBA#8
  | .txs => 0x9A#8
  | .incZp _ => 0xE6#8 | .incZpx _ => 0xF6#8 | .incAbs _ => 0xEE#8 | .incAbx _ => 0xFE#8
  | .inx => 0xE8#8
  | .iny => 0xC8#8
  | .decZp _ => 0xC6#8 | .decZpx _ => 0xD6#8 | .decAbs _ => 0xCE#8 | .decAbx _ => 0xDE#8
  | .dex => 0xCA#8
  | .dey => 0x88#8
  | .andImm _ => 0x29#8 | .andZp _ => 0x25#8 | .andZpx _ => 0x35#8 | .andAbs _ => 0x2D#8
  | .andAbx _ => 0x3D#8 | .andAby _ => 0x39#8 | .andIzx _ => 0x21#8 | .andIzy _ => 0x31#8
  | .oraImm _ => 0x09#8 | .oraZp _ => 0x05#8 | .oraZpx _ => 0x15#8 | .oraAbs _ => 0x0D#8
  | .oraAbx _ => 0x1D#8 | .oraAby _ => 0x19#8 | .oraIzx _ => 0x01#8 | .oraIzy _ => 0x11#8
  | .eorImm _ => 0x49#8 | .eorZp _ => 0x45#8 | .eorZpx _ => 0x55#8 | .eorAbs _ => 0x4D#8
  | .eorAbx _ => 0x5D#8 | .eorAby _ => 0x59#8 | .eorIzx _ => 0x41#8 | .eorIzy _ => 0x51#8
  | .bitZp _ => 0x24#8 | .bitAbs _ => 0x2C#8
  | .adcImm _ => 0x69#8 | .adcZp _ => 0x65#8 | .adcZpx _ => 0x75#8 | .adcAbs _ => 0x6D#8
  | .adcAbx _ => 0x7D#8 | .adcAby _ => 0x79#8 | .adcIzx _ => 0x61#8 | .adcIzy _ => 0x71#8
  | .sbcImm _ => 0xE9#8 | .sbcZp _ => 0xE5#8 | .sbcZpx _ => 0xF5#8 | .sbcAbs _ => 0xED#8
  | .sbcAbx _ => 0xFD#8 | .sbcAby _ => 0xF9#8 | .sbcIzx _ => 0xE1#8 | .sbcIzy _ => 0xF1#8
  | .cmpImm _ => 0xC9#8 | .cmpZp _ => 0xC5#8 | .cmpZpx _ => 0xD5#8 | .cmpAbs _ => 0xCD#8
  | .cmpAbx _ => 0xDD#8 | .cmpAby _ => 0xD9#8 | .cmpIzx _ => 0xC1#8 | .cmpIzy _ => 0xD1#8
  | .cpxImm _ => 0xE0#8 | .cpxZp _ => 0xE4#8 | .cpxAbs _ => 0xEC#8
  | .cpyImm _ => 0xC0#8 | .cpyZp _ => 0xC4#8 | .cpyAbs _ => 0xCC#8
  | .aslAcc => 0x0A#8 | .aslZp _ => 0x06#8 | .aslZpx _ => 0x16#8 | .aslAbs _ => 0x0E#8
  | .aslAbx _ => 0x1E#8
  | .lsrAcc => 0x4A#8 | .lsrZp _ => 0x46#8 | .lsrZpx _ => 0x56#8 | .lsrAbs _ => 0x4E#8
  | .lsrAbx _ => 0x5E#8
  | .rolAcc => 0x2A#8 | .rolZp _ => 0x26#8 | .rolZpx _ => 0x36#8 | .rolAbs _ => 0x2E#8
  | .rolAbx _ => 0x3E#8
  | .rorAcc => 0x6A#8 | .rorZp _ => 0x66#8 | .rorZpx _ => 0x76#8 | .rorAbs _ => 0x6E#8
  | .rorAbx _ => 0x7E#8
  | .bcc _ => 0x90#8
  | .bcs _ => 0xB0#8
  | .beq _ => 0xF0#8
  | .bne _ => 0xD0#8
  | .bmi _ => 0x30#8
  | .bpl _ => 0x10#8
  | .bvc _ => 0x50#8
  | .bvs _ => 0x70#8
  | .jsr _ => 0x20#8
  | .rts => 0x60#8
  | .jmpAbs _ => 0x4C#8 | .jmpInd _ => 0x6C#8
  | .pha => 0x48#8
  | .php => 0x08#8
  | .pla => 0x68#8
  | .plp => 0x28#8
  | .clc => 0x18#8
  | .sec => 0x38#8
  | .cli => 0x58#8
  | .sei => 0x78#8
  | .cld => 0xD8#8
  | .sed => 0xF8#8
  | .clv => 0xB8#8
  | .nop => 0xEA#8
  | .brk => 0x00#8
  | .rti => 0x40#8

/-- The bytes of an operand field, low byte first (R81, R58). -/
def Operand.bytes : Operand → List Byte
  | .imp | .acc => []
  | .imm d8 | .rel d8 => [d8]
  | .mem (.zp d8) | .mem (.zpx d8) | .mem (.zpy d8) | .mem (.izx d8) | .mem (.izy d8) => [d8]
  | .mem (.abs a16) | .mem (.abx a16) | .mem (.aby a16) | .ind a16 => [loByte a16, hiByte a16]

/-- The bytes of an instruction (R80, R81). -/
def encode (i : Instr) : List Byte := i.opcode :: i.operand.bytes

/-- The displacement byte a branch at `p0` needs to reach `target`: `(target - (P0 + 2)) mod 256`, "which must
represent a value in -128..+127" (R89); none where the target is out of reach. -/
def branchDisplacement? (p0 target : Word) : Option Byte :=
  let d : Word := target - (p0 + 2#16)
  if -128 ≤ d.toInt ∧ d.toInt ≤ 127 then some (loByte d) else none

/-- The three bytes of an instruction word numbered as spec/opcode_table.json numbers its bits: byte `k` is bits
`8k+7..8k`, and the bits from `nbits` on are 0. Three bytes are the longest instruction (R80). -/
def tableBytes (nbits w : Nat) : List Byte :=
  let v := w % 2 ^ nbits
  [BitVec.ofNat 8 v, BitVec.ofNat 8 (v / 256), BitVec.ofNat 8 (v / 65536)]

/-- What the decoder reads from an instruction word of the opcode table's numbering. -/
def decodeTableWord (nbits w : Nat) : Option Instr :=
  match decode (tableBytes nbits w) with
  | .ok (i, _) => some i
  | .error _ => none

end Sys2Proof
end

