-- ==== Sys2Proof/Machine/State.lean ====
section
/-! DEFINITION. The state of the machine (spec/10_state.md), the reasons it can stop, and the state right after reset
(spec/70_reset_and_hazards.md R290, R291). -/

namespace Sys2Proof.Machine

/-- The backing array `M` of the bus (R32), by physical index: the cells that do not hold 0x00, at strictly rising
indices. A cell that is not listed holds 0x00, the value "the bus is created ... filled with zeros" with (log 24). -/
abbrev Memory := List Host.Cell

/-- The run state (R33). -/
inductive RunState
  /-- The fetch-decode-execute loop runs. -/
  | running
  /-- "the break instruction was retired": the normal end of a run (R266). -/
  | haltedBrk
  /-- A byte `op` with no OpcodeTable entry was fetched from address `addr` (R260). -/
  | haltedFault (op : Byte) (addr : Word)
  deriving DecidableEq, Repr

/-- Everything the spec gives the machine (10_state.md section 1: "There is no other state"). -/
structure State where
  /-- accumulator (R20) -/
  a      : Byte
  /-- index register X (R20) -/
  x      : Byte
  /-- index register Y (R20) -/
  y      : Byte
  /-- stack pointer, an offset into page 0x01 (R22, R31) -/
  sp     : Byte
  /-- program counter (R24) -/
  pc     : Word
  /-- status byte N V U B D I Z C, bit 7 to bit 0 (R26) -/
  p      : Byte
  /-- the 65,536 cells of the bus (R32) -/
  mem    : Memory
  /-- run state (R33) -/
  run    : RunState
  /-- running total of base cycle costs (R34) -/
  cycles : Nat
  /-- "handler relocated PC" marker of the instruction in execution (R35; between steps: log 25) -/
  pcw    : Bool
  deriving DecidableEq, Repr

/-- Why a step stops. No instruction raises one: the CORE's one exception (R260) and BRK (R243) are next states, and
"No step exists when `run ≠ Running`" (R33, R100; 93_implementation_defined.md U21: "stuck"). -/
inductive Fault
  /-- Raised by `step` in `haltedBrk`: the program has ended and only reset restarts the CORE. Safe: nothing runs
  where the hardware runs nothing (log 21). -/
  | afterBreak
  /-- Raised by `step` in `haltedFault op addr`, the stop of R260 after an illegal opcode byte `op` at `addr`. Safe
  (log 10, 21). -/
  | afterIllegalOpcode (op : Byte) (addr : Word)
  deriving DecidableEq, Repr

/-- Why an instruction has no meaning. -/
inductive Refusal
  /-- Raised by `exec` for an instruction without a meaning in this model; there is none. Safe. -/
  | notModelled (mnemonic : String)
  deriving DecidableEq, Repr

/-- What an instruction or a step answers. -/
abbrev Result := Host.Outcome State Fault Refusal

/-- The machine right after reset (R290, R291) of a fresh bus (R293), with the spec's defaults for `SP_RESET` (log 4)
and `P_RESET` (log 5). PC is the word at 0xFFFC, 0x0000 on a bus of zeros: "With nothing loaded, reset gives
PC = 0x0000" (R293). How a program comes to run: log 19. -/
def State.reset : State where
  a      := 0x00#8
  x      := 0x00#8
  y      := 0x00#8
  sp     := spResetDefault
  pc     := 0x0000#16
  p      := pResetDefault
  mem    := []
  run    := .running
  cycles := 0
  pcw    := false

end Sys2Proof.Machine
end

