-- ==== Sys2Proof/Machine/Ops.lean ====
section
/-! DEFINITION. The named operations over registers, memory, stack and run state: the bus (spec/20_memory.md R50 to
R58), the stack primitives (spec/40_fetch_execute_addressing.md R121 to R124), relocation (R105), halting (R106,
R243) and the one exception (spec/60_exceptions.md R260). -/

namespace Sys2Proof.Machine

/-! ### Byte and word helpers (R7) -/

/-- `zext_16(b)` (R7). -/
def zext16 (b : Byte) : Word := b.setWidth 16

/-- `sext_16(b)`: two's-complement sign extension (R7). -/
def sext16 (b : Byte) : Word := b.signExtend 16

/-! ### The backing array -/

/-- What a cell that is not listed holds (R32: "filled with zeros"). -/
def unlistedByte : Byte := 0x00#8

/-- The byte in cell `k`. -/
def Memory.readCell (k : Nat) : Memory → Byte
  | [] => unlistedByte
  | (j, b) :: rest => if j = k then b else Memory.readCell k rest

/-- Puts `v` into cell `k`, keeping the canonical form: writing `unlistedByte` removes the entry. -/
def Memory.writeCell (k : Nat) (v : Byte) : Memory → Memory
  | [] => if v = unlistedByte then [] else [(k, v)]
  | (j, b) :: rest =>
    if k < j then
      if v = unlistedByte then (j, b) :: rest else (k, v) :: (j, b) :: rest
    else if k = j then
      if v = unlistedByte then rest else (k, v) :: rest
    else
      (j, b) :: Memory.writeCell k v rest

/-- The canonical form from index `lo` on: indices strictly rising and below 65,536 (R51), no entry 0x00. -/
def Memory.wfFrom (lo : Nat) : Memory → Bool
  | [] => true
  | (j, b) :: rest => decide (lo ≤ j) && decide (j < 65536) && decide (b ≠ unlistedByte) && Memory.wfFrom (j + 1) rest

/-- The canonical form of a memory. -/
def Memory.wf (m : Memory) : Bool := Memory.wfFrom 0 m

/-- "Cells with index 0x0800–0x1FFF can never be read or written through the bus and keep their creation value 0x00"
(R32, R52): none of them is listed. -/
def Memory.hiddenClear (m : Memory) : Bool := m.all fun c => decide (c.1 < 0x0800) || decide (0x1FFF < c.1)

/-! ### The bus -/

/-- `Phys(a)`, the address decode with mirroring (R52; the literals are the document's, UNVERIFIED, unsafe: log 23). -/
def phys (a : Word) : Nat := if a ≤ 0x1FFF#16 then (a &&& 0x07FF#16).toNat else a.toNat

/-- A byte read transaction of the bus (R50, R53). -/
def Memory.read (a : Word) (m : Memory) : Byte := m.readCell (phys a)

/-- A byte write transaction of the bus (R50, R54). -/
def Memory.write (a : Word) (v : Byte) (m : Memory) : Memory := m.writeCell (phys a) v

/-- The word read: low byte at `a`, high byte at `a +16 1` (R55). -/
def Memory.read16 (a : Word) (m : Memory) : Word := wordOfBytes (m.read (a + 1#16)) (m.read a)

/-- The word write: low byte at `a`, then high byte at `a +16 1` (R56). Only the host uses it. -/
def Memory.write16 (a w : Word) (m : Memory) : Memory := (m.write a (loByte w)).write (a + 1#16) (hiByte w)

/-! ### Register writes -/

def State.setA (v : Byte) (s : State) : State := { s with a := v }
def State.setX (v : Byte) (s : State) : State := { s with x := v }
def State.setY (v : Byte) (s : State) : State := { s with y := v }
def State.setSP (v : Byte) (s : State) : State := { s with sp := v }
def State.setPC (v : Word) (s : State) : State := { s with pc := v }
def State.setP (v : Byte) (s : State) : State := { s with p := v }
def State.setMem (m : Memory) (s : State) : State := { s with mem := m }
def State.setRun (r : RunState) (s : State) : State := { s with run := r }
def State.setCycles (n : Nat) (s : State) : State := { s with cycles := n }
def State.setPcw (b : Bool) (s : State) : State := { s with pcw := b }

/-- `MemRead(a, 1)` (R53). No side effect: it answers a byte and no state. -/
def State.memRead (s : State) (a : Word) : Byte := s.mem.read a

/-- `MemRead(a, 2)` (R55). -/
def State.memRead16 (s : State) (a : Word) : Word := s.mem.read16 a

/-- `MemWrite(a, 1, v)` (R54). -/
def State.memWrite (a : Word) (v : Byte) (s : State) : State := s.setMem (s.mem.write a v)

/-! ### The stack (R31, R121 to R124) -/

/-- The address in the stack page that a stack pointer designates, `0x0100 + SP` (R22, R31; D6: UNVERIFIED, unsafe,
log 7). -/
def stackAddr (sp : Byte) : Word := 0x0100#16 + zext16 sp

/-- `Push8(v)`: write, then decrement (R121). -/
def State.push8 (v : Byte) (s : State) : State := (s.memWrite (stackAddr s.sp) v).setSP (s.sp - 1#8)

/-- The state after `Pop8()`: the pointer is incremented and nothing else changes (R122). -/
def State.drop8 (s : State) : State := s.setSP (s.sp + 1#8)

/-- The byte `Pop8()` returns: the one at the incremented pointer (R122). -/
def State.top8 (s : State) : Byte := s.memRead (stackAddr (s.sp + 1#8))

/-- `Push16(w)`: "high byte pushed first" (R123). -/
def State.push16 (w : Word) (s : State) : State := (s.push8 (hiByte w)).push8 (loByte w)

/-- The state after `Pop16()` (R124). -/
def State.drop16 (s : State) : State := s.drop8.drop8

/-- The word `Pop16()` returns: low byte popped first (R124). -/
def State.top16 (s : State) : Word := wordOfBytes s.drop8.top8 s.top8

/-! ### Relocation, halt, exception -/

/-- `PC <- t` in an instruction rule: a relocation, marked "by the act of writing" (R8, R105; D7: UNVERIFIED, unsafe,
log 8). -/
def State.relocate (t : Word) (s : State) : State := (s.setPC t).setPcw true

/-- `halt`: what BRK does, `run <- HaltedBrk` and nothing else (R106, R243; D8: UNVERIFIED, unsafe, log 9). -/
def State.halt (s : State) : State := s.setRun .haltedBrk

/-- Taking the CORE's one exception, `raise IllegalOpcode(op, addr)`: `run <- HaltedFault(op, addr)`; "no state is saved
to the stack or to a register, no mode or mask changes, no vector is read" (R260, R265; D9, log 10). The PC has already
moved past the opcode byte. There is no return from it (R267): only reset leaves it (`State.resetWith`). -/
def State.raiseIllegalOpcode (op : Byte) (addr : Word) (s : State) : State := s.setRun (.haltedFault op addr)

end Sys2Proof.Machine
end

