-- ==== Sys2Proof/Machine/Flags.lean ====
section
/-! DEFINITION. The flags of the status byte (spec/10_state.md R26 to R28) and every flag computation: SetZN
(spec/40_fetch_execute_addressing.md R120), the adder (spec/43_arithmetic_compare.md R180), Compare (R184), the bit test
(spec/42_incdec_logic.md R169), the shift and rotate functions (spec/44_shift_rotate.md R201 to R204), and the status
byte as PHP pushes it and PLP and RTI load it (spec/46_stack_flag_system.md R231, R233, R244). -/

namespace Sys2Proof.Machine

/-- The eight flags (R26). -/
inductive Flag
  | C | Z | I | D | B | U | V | N
  deriving DecidableEq, Repr

/-- The bit a flag has in P (R26; positions but for 4 and 5: D2, UNVERIFIED, unsafe, log 2). -/
def Flag.bit : Flag → Nat
  | .C => 0 | .Z => 1 | .I => 2 | .D => 3 | .B => 4 | .U => 5 | .V => 6 | .N => 7

/-- The mask of a flag in P (R26). -/
def Flag.mask : Flag → Byte
  | .C => 0x01#8 | .Z => 0x02#8 | .I => 0x04#8 | .D => 0x08#8
  | .B => 0x10#8 | .U => 0x20#8 | .V => 0x40#8 | .N => 0x80#8

/-- The value of flag `f`. -/
def State.flag (s : State) (f : Flag) : Bool := s.p.getLsbD f.bit

/-- The byte `p` with flag `f` set to `b` and every other bit kept. -/
def setBit (f : Flag) (b : Bool) (p : Byte) : Byte := if b then p ||| f.mask else p &&& ~~~f.mask

/-- `P.f <- b`. -/
def State.setFlag (f : Flag) (b : Bool) (s : State) : State := s.setP (setBit f b s.p)

/-- `SetZN(v)`: `P.Z <- b2i(v = 0)`; `P.N <- v[7]` (R120). -/
def State.setZN (v : Byte) (s : State) : State := (s.setFlag .Z (decide (v = 0#8))).setFlag .N v.msb

/-- What the adder gives (R180): the result byte, the carry out and the signed overflow. -/
structure AdderOut where
  r    : Byte
  cout : Bool
  vout : Bool
  deriving DecidableEq, Repr

/-- `AddCore(a, m, c)`: the 9-bit sum, its bit 8, and the signed-overflow test on bit 7 (R180). Binary whatever P.D
holds (R182; D10: UNVERIFIED, unsafe, log 11). -/
def addCore (a m : Byte) (c : Bool) : AdderOut :=
  let sum := a.toNat + m.toNat + c.toNat
  let r := BitVec.ofNat 8 sum
  { r := r, cout := decide (256 ≤ sum), vout := ((a ^^^ r) &&& (m ^^^ r)).msb }

/-- `Compare(reg, m)`: C from the unsigned comparison, Z and N from the truncated difference (R184). -/
def State.compare (reg m : Byte) (s : State) : State :=
  (s.setFlag .C (decide (m.toNat ≤ reg.toNat))).setZN (reg - m)

/-- BIT's flags: Z from `A & m`, N and V from bits 7 and 6 of the memory byte (R169; D23: UNVERIFIED, unsafe, log 22). -/
def State.bitTest (m : Byte) (s : State) : State :=
  ((s.setFlag .Z (decide (s.a &&& m = 0#8))).setFlag .N m.msb).setFlag .V (m.getLsbD 6)

/-- What a shift or rotate gives (R200): the result byte and the bit shifted out. -/
structure ShiftOut where
  r    : Byte
  cout : Bool
  deriving DecidableEq, Repr

/-- ASL: `( (v << 1)[7:0], v[7] )` (R201). -/
def aslFn (v : Byte) (_c : Bool) : ShiftOut := { r := v <<< 1, cout := v.msb }

/-- LSR: `( v >> 1, v[0] )` (R202). -/
def lsrFn (v : Byte) (_c : Bool) : ShiftOut := { r := v >>> 1, cout := v.getLsbD 0 }

/-- ROL: `( ((v << 1) | c)[7:0], v[7] )` (R203). -/
def rolFn (v : Byte) (c : Bool) : ShiftOut := { r := (v <<< 1) ||| (if c then 0x01#8 else 0x00#8), cout := v.msb }

/-- ROR: `( (v >> 1) | (c << 7), v[0] )` (R204). -/
def rorFn (v : Byte) (c : Bool) : ShiftOut :=
  { r := (v >>> 1) ||| (if c then 0x80#8 else 0x00#8), cout := v.getLsbD 0 }

/-- The byte PHP pushes: `P | 0x10 | 0x20` (R231). -/
def pushedStatus (p : Byte) : Byte := p ||| 0x10#8 ||| 0x20#8

/-- The status byte PLP makes of a pulled byte: `(v & 0xEF) | 0x20` (R233). -/
def pulledStatus (v : Byte) : Byte := (v &&& 0xEF#8) ||| 0x20#8

/-- The status byte RTI makes of a popped byte: `v | 0x20` (R244; D13: UNVERIFIED, unsafe, log 14). -/
def returnedStatus (v : Byte) : Byte := v ||| 0x20#8

end Sys2Proof.Machine
end

