-- ==== Sys2Proof/Machine/Operands.lean ====
section
/-! DEFINITION. The addressing-mode resolver (spec/40_fetch_execute_addressing.md R110 to R119, R126) and the operand
access of the instruction families. The operand field stands in the instruction (log 28); `s` is the state the handler
starts in, so `s.pc` is the address of byte 1 of the instruction (R25). -/

namespace Sys2Proof.Machine

/-- The 16-bit pointer at zero-page address `zp`: low byte at `zp`, high byte at `zp +8 1`, both in page 0 (R117, R118). -/
def State.zpPointer (s : State) (zp : Byte) : Word :=
  wordOfBytes (s.memRead (zext16 (zp + 1#8))) (s.memRead (zext16 zp))

end Sys2Proof.Machine

namespace Sys2Proof

/-- `EA(mode)` of the eight modes that address a data byte (R112 to R115, R117, R118). The wrap of the `(zp),Y` pointer
in page 0 is D12: UNVERIFIED, unsafe, log 13. -/
def MemOperand.ea (s : Machine.State) : MemOperand → Word
  | .zp d8 => Machine.zext16 d8
  | .zpx d8 => Machine.zext16 (d8 + s.x)
  | .zpy d8 => Machine.zext16 (d8 + s.y)
  | .abs a16 => a16
  | .abx a16 => a16 + Machine.zext16 s.x
  | .aby a16 => a16 + Machine.zext16 s.y
  | .izx d8 => s.zpPointer (d8 + s.x)
  | .izy d8 => s.zpPointer d8 + Machine.zext16 s.y

end Sys2Proof

namespace Sys2Proof.Machine

/-- `EA(IND)`: the word at the pointer, its high byte fetched from the start of the same page when the pointer's low
byte is 0xFF (R116; "must not be 'fixed'"). -/
def State.indirectTarget (s : State) (ptr : Word) : Word :=
  if loByte ptr = 0xFF#8 then wordOfBytes (s.memRead (ptr &&& 0xFF00#16)) (s.memRead ptr)
  else wordOfBytes (s.memRead (ptr + 1#16)) (s.memRead ptr)

/-- `EA(REL)`: `(PC +16 1) +16 sext_16(d8)` (R119). -/
def State.branchTarget (s : State) (d8 : Byte) : Word := s.pc + 1#16 + sext16 d8

/-- The resolver (R126): "either an effective memory address or signals that the operand is implicit". -/
def State.resolve (s : State) : Operand → Option Word
  | .imp | .acc => none
  | .imm _ => some s.pc
  | .mem m => some (m.ea s)
  | .ind a16 => some (s.indirectTarget a16)
  | .rel d8 => some (s.branchTarget d8)

/-- `Operand(mode)` for a mode that addresses a data byte: `MemRead(EA(mode), 1)` (R126). -/
def State.dataAt (s : State) (m : MemOperand) : Byte := s.memRead (m.ea s)

/-- `Operand(mode)` (R126): the data byte of a reading instruction, for the modes that have one. In immediate mode it
is the operand field itself (R83, R111; D25, log 28). -/
def State.operandByte? (s : State) : Operand → Option Byte
  | .imm d8 => some d8
  | .mem m => some (s.dataAt m)
  | .imp | .acc | .ind _ | .rel _ => none

/-- `MemWrite(EA(mode), 1, v)` (R126, R143). -/
def State.storeAt (m : MemOperand) (v : Byte) (s : State) : State := s.memWrite (m.ea s) v

/-- The read-modify-write of INC and DEC: one read, one write of the one EA, then SetZN of the new byte (R160, R163,
R60). -/
def State.modifyAt (f : Byte → Byte) (m : MemOperand) (s : State) : State :=
  let r := f (s.dataAt m)
  (s.storeAt m r).setZN r

/-- The shift family on the accumulator (R200). -/
def State.shiftA (f : Byte → Bool → ShiftOut) (s : State) : State :=
  let o := f s.a (s.flag .C)
  ((s.setA o.r).setFlag .C o.cout).setZN o.r

/-- The shift family on a memory byte: one read, one write of the one EA (R200, R60). -/
def State.shiftAt (f : Byte → Bool → ShiftOut) (m : MemOperand) (s : State) : State :=
  let o := f (s.dataAt m) (s.flag .C)
  ((s.storeAt m o.r).setFlag .C o.cout).setZN o.r

end Sys2Proof.Machine
end

