-- ==== Sys2Proof/Machine/ArithmeticCompare.lean ====
section
/-! DEFINITION. Add and subtract with carry, compares (spec/43_arithmetic_compare.md R180 to R187).
Each instruction has a definition of its own over the shared operations; it is the handler of loop step 3 (R103),
which sees PC at byte 1 of the instruction and cannot fault (spec/60_exceptions.md R261). -/

namespace Sys2Proof.Machine

/-- `(r, cout, vout) <- AddCore(A, m, P.C); P.C <- cout; P.V <- vout; A <- r; SetZN(A)` (R181; with `~8 m` for `m` it
is SBC, R183). -/
def State.addA (m : Byte) (s : State) : State :=
  let o := addCore s.a m (s.flag .C)
  (((s.setFlag .C o.cout).setFlag .V o.vout).setA o.r).setZN o.r

/-- ADC in mode IMM (R111): R181 (P.D has no effect, R182; D10: UNVERIFIED, unsafe, log 11). -/
def execAdcImm (d8 : Byte) (s : State) : Result := .next (s.addA d8)

/-- ADC in mode ZP (R112): R181 (P.D has no effect, R182; D10: UNVERIFIED, unsafe, log 11). -/
def execAdcZp (d8 : Byte) (s : State) : Result := .next (s.addA (s.dataAt (.zp d8)))

/-- ADC in mode ZPX (R113): R181 (P.D has no effect, R182; D10: UNVERIFIED, unsafe, log 11). -/
def execAdcZpx (d8 : Byte) (s : State) : Result := .next (s.addA (s.dataAt (.zpx d8)))

/-- ADC in mode ABS (R114): R181 (P.D has no effect, R182; D10: UNVERIFIED, unsafe, log 11). -/
def execAdcAbs (a16 : Word) (s : State) : Result := .next (s.addA (s.dataAt (.abs a16)))

/-- ADC in mode ABX (R115): R181 (P.D has no effect, R182; D10: UNVERIFIED, unsafe, log 11). -/
def execAdcAbx (a16 : Word) (s : State) : Result := .next (s.addA (s.dataAt (.abx a16)))

/-- ADC in mode ABY (R115): R181 (P.D has no effect, R182; D10: UNVERIFIED, unsafe, log 11). -/
def execAdcAby (a16 : Word) (s : State) : Result := .next (s.addA (s.dataAt (.aby a16)))

/-- ADC in mode IZX (R117): R181 (P.D has no effect, R182; D10: UNVERIFIED, unsafe, log 11). -/
def execAdcIzx (d8 : Byte) (s : State) : Result := .next (s.addA (s.dataAt (.izx d8)))

/-- ADC in mode IZY (R118): R181 (P.D has no effect, R182; D10: UNVERIFIED, unsafe, log 11). -/
def execAdcIzy (d8 : Byte) (s : State) : Result := .next (s.addA (s.dataAt (.izy d8)))

/-- SBC in mode IMM (R111): R183 (P.D has no effect, R182; D10: UNVERIFIED, unsafe, log 11). -/
def execSbcImm (d8 : Byte) (s : State) : Result := .next (s.addA (~~~d8))

/-- SBC in mode ZP (R112): R183 (P.D has no effect, R182; D10: UNVERIFIED, unsafe, log 11). -/
def execSbcZp (d8 : Byte) (s : State) : Result := .next (s.addA (~~~(s.dataAt (.zp d8))))

/-- SBC in mode ZPX (R113): R183 (P.D has no effect, R182; D10: UNVERIFIED, unsafe, log 11). -/
def execSbcZpx (d8 : Byte) (s : State) : Result := .next (s.addA (~~~(s.dataAt (.zpx d8))))

/-- SBC in mode ABS (R114): R183 (P.D has no effect, R182; D10: UNVERIFIED, unsafe, log 11). -/
def execSbcAbs (a16 : Word) (s : State) : Result := .next (s.addA (~~~(s.dataAt (.abs a16))))

/-- SBC in mode ABX (R115): R183 (P.D has no effect, R182; D10: UNVERIFIED, unsafe, log 11). -/
def execSbcAbx (a16 : Word) (s : State) : Result := .next (s.addA (~~~(s.dataAt (.abx a16))))

/-- SBC in mode ABY (R115): R183 (P.D has no effect, R182; D10: UNVERIFIED, unsafe, log 11). -/
def execSbcAby (a16 : Word) (s : State) : Result := .next (s.addA (~~~(s.dataAt (.aby a16))))

/-- SBC in mode IZX (R117): R183 (P.D has no effect, R182; D10: UNVERIFIED, unsafe, log 11). -/
def execSbcIzx (d8 : Byte) (s : State) : Result := .next (s.addA (~~~(s.dataAt (.izx d8))))

/-- SBC in mode IZY (R118): R183 (P.D has no effect, R182; D10: UNVERIFIED, unsafe, log 11). -/
def execSbcIzy (d8 : Byte) (s : State) : Result := .next (s.addA (~~~(s.dataAt (.izy d8))))

/-- CMP in mode IMM (R111): R185. -/
def execCmpImm (d8 : Byte) (s : State) : Result := .next (s.compare s.a d8)

/-- CMP in mode ZP (R112): R185. -/
def execCmpZp (d8 : Byte) (s : State) : Result := .next (s.compare s.a (s.dataAt (.zp d8)))

/-- CMP in mode ZPX (R113): R185. -/
def execCmpZpx (d8 : Byte) (s : State) : Result := .next (s.compare s.a (s.dataAt (.zpx d8)))

/-- CMP in mode ABS (R114): R185. -/
def execCmpAbs (a16 : Word) (s : State) : Result := .next (s.compare s.a (s.dataAt (.abs a16)))

/-- CMP in mode ABX (R115): R185. -/
def execCmpAbx (a16 : Word) (s : State) : Result := .next (s.compare s.a (s.dataAt (.abx a16)))

/-- CMP in mode ABY (R115): R185. -/
def execCmpAby (a16 : Word) (s : State) : Result := .next (s.compare s.a (s.dataAt (.aby a16)))

/-- CMP in mode IZX (R117): R185. -/
def execCmpIzx (d8 : Byte) (s : State) : Result := .next (s.compare s.a (s.dataAt (.izx d8)))

/-- CMP in mode IZY (R118): R185. -/
def execCmpIzy (d8 : Byte) (s : State) : Result := .next (s.compare s.a (s.dataAt (.izy d8)))

/-- CPX in mode IMM (R111): R186. -/
def execCpxImm (d8 : Byte) (s : State) : Result := .next (s.compare s.x d8)

/-- CPX in mode ZP (R112): R186. -/
def execCpxZp (d8 : Byte) (s : State) : Result := .next (s.compare s.x (s.dataAt (.zp d8)))

/-- CPX in mode ABS (R114): R186. -/
def execCpxAbs (a16 : Word) (s : State) : Result := .next (s.compare s.x (s.dataAt (.abs a16)))

/-- CPY in mode IMM (R111): R187. -/
def execCpyImm (d8 : Byte) (s : State) : Result := .next (s.compare s.y d8)

/-- CPY in mode ZP (R112): R187. -/
def execCpyZp (d8 : Byte) (s : State) : Result := .next (s.compare s.y (s.dataAt (.zp d8)))

/-- CPY in mode ABS (R114): R187. -/
def execCpyAbs (a16 : Word) (s : State) : Result := .next (s.compare s.y (s.dataAt (.abs a16)))

end Sys2Proof.Machine
end

