-- ==== Sys2Proof/Machine/BranchJumpCall.lean ====
section
/-! DEFINITION. Branches, jumps, subroutine call and return (spec/45_branch_jump_call.md R210 to R221).
Each instruction has a definition of its own over the shared operations; it is the handler of loop step 3 (R103),
which sees PC at byte 1 of the instruction and cannot fault (spec/60_exceptions.md R261). -/

namespace Sys2Proof.Machine

/-- `Branch(cond)`: a relocation to `EA(REL)` when the condition holds, nothing otherwise (R210). -/
def State.branchIf (cond : Bool) (d8 : Byte) (s : State) : State := if cond then s.relocate (s.branchTarget d8) else s

/-- BCC in mode REL (R119): R211 (D23: UNVERIFIED, unsafe, log 22). -/
def execBcc (d8 : Byte) (s : State) : Result := .next (s.branchIf (!s.flag .C) d8)

/-- BCS in mode REL (R119): R212 (D23: UNVERIFIED, unsafe, log 22). -/
def execBcs (d8 : Byte) (s : State) : Result := .next (s.branchIf (s.flag .C) d8)

/-- BEQ in mode REL (R119): R213 (D23: UNVERIFIED, unsafe, log 22). -/
def execBeq (d8 : Byte) (s : State) : Result := .next (s.branchIf (s.flag .Z) d8)

/-- BNE in mode REL (R119): R214 (D23: UNVERIFIED, unsafe, log 22). -/
def execBne (d8 : Byte) (s : State) : Result := .next (s.branchIf (!s.flag .Z) d8)

/-- BMI in mode REL (R119): R215 (D23: UNVERIFIED, unsafe, log 22). -/
def execBmi (d8 : Byte) (s : State) : Result := .next (s.branchIf (s.flag .N) d8)

/-- BPL in mode REL (R119): R216 (D23: UNVERIFIED, unsafe, log 22). -/
def execBpl (d8 : Byte) (s : State) : Result := .next (s.branchIf (!s.flag .N) d8)

/-- BVC in mode REL (R119): R217 (D23: UNVERIFIED, unsafe, log 22). -/
def execBvc (d8 : Byte) (s : State) : Result := .next (s.branchIf (!s.flag .V) d8)

/-- BVS in mode REL (R119): R218 (D23: UNVERIFIED, unsafe, log 22). -/
def execBvs (d8 : Byte) (s : State) : Result := .next (s.branchIf (s.flag .V) d8)

/-- JSR in mode ABS (R114): R219, target read before the pushes (D14: UNVERIFIED, unsafe, log 15). -/
def execJsr (a16 : Word) (s : State) : Result := .next ((s.push16 (s.pc + 1#16)).relocate a16)

/-- RTS: R220. -/
def execRts (s : State) : Result := .next (s.drop16.relocate (s.top16 + 1#16))

/-- JMP in mode ABS (R114): R221. -/
def execJmpAbs (a16 : Word) (s : State) : Result := .next (s.relocate ((.abs a16 : MemOperand).ea s))

/-- JMP in mode IND (R116): R221. -/
def execJmpInd (a16 : Word) (s : State) : Result := .next (s.relocate (s.indirectTarget a16))

end Sys2Proof.Machine
end

