-- ==== Sys2Proof/Machine/LoadStoreTransfer.lean ====
section
/-! DEFINITION. Loads, stores and register transfers (spec/41_load_store_transfer.md R140 to R151).
Each instruction has a definition of its own over the shared operations; it is the handler of loop step 3 (R103),
which sees PC at byte 1 of the instruction and cannot fault (spec/60_exceptions.md R261). -/

namespace Sys2Proof.Machine

/-- `A <- v; SetZN(A)` (R140, R148, R149). -/
def State.loadA (v : Byte) (s : State) : State := (s.setA v).setZN v

/-- `X <- v; SetZN(X)` (R141, R146, R150). -/
def State.loadX (v : Byte) (s : State) : State := (s.setX v).setZN v

/-- `Y <- v; SetZN(Y)` (R142, R147). -/
def State.loadY (v : Byte) (s : State) : State := (s.setY v).setZN v

/-- LDA in mode IMM (R111): R140. -/
def execLdaImm (d8 : Byte) (s : State) : Result := .next (s.loadA d8)

/-- LDA in mode ZP (R112): R140. -/
def execLdaZp (d8 : Byte) (s : State) : Result := .next (s.loadA (s.dataAt (.zp d8)))

/-- LDA in mode ZPX (R113): R140. -/
def execLdaZpx (d8 : Byte) (s : State) : Result := .next (s.loadA (s.dataAt (.zpx d8)))

/-- LDA in mode ABS (R114): R140. -/
def execLdaAbs (a16 : Word) (s : State) : Result := .next (s.loadA (s.dataAt (.abs a16)))

/-- LDA in mode ABX (R115): R140. -/
def execLdaAbx (a16 : Word) (s : State) : Result := .next (s.loadA (s.dataAt (.abx a16)))

/-- LDA in mode ABY (R115): R140. -/
def execLdaAby (a16 : Word) (s : State) : Result := .next (s.loadA (s.dataAt (.aby a16)))

/-- LDA in mode IZX (R117): R140. -/
def execLdaIzx (d8 : Byte) (s : State) : Result := .next (s.loadA (s.dataAt (.izx d8)))

/-- LDA in mode IZY (R118): R140. -/
def execLdaIzy (d8 : Byte) (s : State) : Result := .next (s.loadA (s.dataAt (.izy d8)))

/-- LDX in mode IMM (R111): R141. -/
def execLdxImm (d8 : Byte) (s : State) : Result := .next (s.loadX d8)

/-- LDX in mode ZP (R112): R141. -/
def execLdxZp (d8 : Byte) (s : State) : Result := .next (s.loadX (s.dataAt (.zp d8)))

/-- LDX in mode ZPY (R113): R141. -/
def execLdxZpy (d8 : Byte) (s : State) : Result := .next (s.loadX (s.dataAt (.zpy d8)))

/-- LDX in mode ABS (R114): R141. -/
def execLdxAbs (a16 : Word) (s : State) : Result := .next (s.loadX (s.dataAt (.abs a16)))

/-- LDX in mode ABY (R115): R141. -/
def execLdxAby (a16 : Word) (s : State) : Result := .next (s.loadX (s.dataAt (.aby a16)))

/-- LDY in mode IMM (R111): R142. -/
def execLdyImm (d8 : Byte) (s : State) : Result := .next (s.loadY d8)

/-- LDY in mode ZP (R112): R142. -/
def execLdyZp (d8 : Byte) (s : State) : Result := .next (s.loadY (s.dataAt (.zp d8)))

/-- LDY in mode ZPX (R113): R142. -/
def execLdyZpx (d8 : Byte) (s : State) : Result := .next (s.loadY (s.dataAt (.zpx d8)))

/-- LDY in mode ABS (R114): R142. -/
def execLdyAbs (a16 : Word) (s : State) : Result := .next (s.loadY (s.dataAt (.abs a16)))

/-- LDY in mode ABX (R115): R142. -/
def execLdyAbx (a16 : Word) (s : State) : Result := .next (s.loadY (s.dataAt (.abx a16)))

/-- STA in mode ZP (R112): R143 (D23: UNVERIFIED, unsafe, log 22). -/
def execStaZp (d8 : Byte) (s : State) : Result := .next (s.storeAt (.zp d8) s.a)

/-- STA in mode ZPX (R113): R143 (D23: UNVERIFIED, unsafe, log 22). -/
def execStaZpx (d8 : Byte) (s : State) : Result := .next (s.storeAt (.zpx d8) s.a)

/-- STA in mode ABS (R114): R143 (D23: UNVERIFIED, unsafe, log 22). -/
def execStaAbs (a16 : Word) (s : State) : Result := .next (s.storeAt (.abs a16) s.a)

/-- STA in mode ABX (R115): R143 (D23: UNVERIFIED, unsafe, log 22). -/
def execStaAbx (a16 : Word) (s : State) : Result := .next (s.storeAt (.abx a16) s.a)

/-- STA in mode ABY (R115): R143 (D23: UNVERIFIED, unsafe, log 22). -/
def execStaAby (a16 : Word) (s : State) : Result := .next (s.storeAt (.aby a16) s.a)

/-- STA in mode IZX (R117): R143 (D23: UNVERIFIED, unsafe, log 22). -/
def execStaIzx (d8 : Byte) (s : State) : Result := .next (s.storeAt (.izx d8) s.a)

/-- STA in mode IZY (R118): R143 (D23: UNVERIFIED, unsafe, log 22). -/
def execStaIzy (d8 : Byte) (s : State) : Result := .next (s.storeAt (.izy d8) s.a)

/-- STX in mode ZP (R112): R144 (D23: UNVERIFIED, unsafe, log 22). -/
def execStxZp (d8 : Byte) (s : State) : Result := .next (s.storeAt (.zp d8) s.x)

/-- STX in mode ZPY (R113): R144 (D23: UNVERIFIED, unsafe, log 22). -/
def execStxZpy (d8 : Byte) (s : State) : Result := .next (s.storeAt (.zpy d8) s.x)

/-- STX in mode ABS (R114): R144 (D23: UNVERIFIED, unsafe, log 22). -/
def execStxAbs (a16 : Word) (s : State) : Result := .next (s.storeAt (.abs a16) s.x)

/-- STY in mode ZP (R112): R145 (D23: UNVERIFIED, unsafe, log 22). -/
def execStyZp (d8 : Byte) (s : State) : Result := .next (s.storeAt (.zp d8) s.y)

/-- STY in mode ZPX (R113): R145 (D23: UNVERIFIED, unsafe, log 22). -/
def execStyZpx (d8 : Byte) (s : State) : Result := .next (s.storeAt (.zpx d8) s.y)

/-- STY in mode ABS (R114): R145 (D23: UNVERIFIED, unsafe, log 22). -/
def execStyAbs (a16 : Word) (s : State) : Result := .next (s.storeAt (.abs a16) s.y)

/-- TAX: R146. -/
def execTax (s : State) : Result := .next (s.loadX s.a)

/-- TAY: R147. -/
def execTay (s : State) : Result := .next (s.loadY s.a)

/-- TXA: R148. -/
def execTxa (s : State) : Result := .next (s.loadA s.x)

/-- TYA: R149. -/
def execTya (s : State) : Result := .next (s.loadA s.y)

/-- TSX: R150. -/
def execTsx (s : State) : Result := .next (s.loadX s.sp)

/-- TXS: R151, no flag (D11: UNVERIFIED, unsafe, log 12). -/
def execTxs (s : State) : Result := .next (s.setSP s.x)

end Sys2Proof.Machine
end

