-- ==== Sys2Proof/Machine/IncDecLogic.lean ====
section
/-! DEFINITION. Increments, decrements, logical operations and BIT (spec/42_incdec_logic.md R160 to R169).
Each instruction has a definition of its own over the shared operations; it is the handler of loop step 3 (R103),
which sees PC at byte 1 of the instruction and cannot fault (spec/60_exceptions.md R261). -/

namespace Sys2Proof.Machine


/-- INC in mode ZP (R112): R160 (D23: UNVERIFIED, unsafe, log 22). -/
def execIncZp (d8 : Byte) (s : State) : Result := .next (s.modifyAt (fun v => v + 1#8) (.zp d8))

/-- INC in mode ZPX (R113): R160 (D23: UNVERIFIED, unsafe, log 22). -/
def execIncZpx (d8 : Byte) (s : State) : Result := .next (s.modifyAt (fun v => v + 1#8) (.zpx d8))

/-- INC in mode ABS (R114): R160 (D23: UNVERIFIED, unsafe, log 22). -/
def execIncAbs (a16 : Word) (s : State) : Result := .next (s.modifyAt (fun v => v + 1#8) (.abs a16))

/-- INC in mode ABX (R115): R160 (D23: UNVERIFIED, unsafe, log 22). -/
def execIncAbx (a16 : Word) (s : State) : Result := .next (s.modifyAt (fun v => v + 1#8) (.abx a16))

/-- INX: R161 (D23: UNVERIFIED, unsafe, log 22). -/
def execInx (s : State) : Result := .next (s.loadX (s.x + 1#8))

/-- INY: R162 (D23: UNVERIFIED, unsafe, log 22). -/
def execIny (s : State) : Result := .next (s.loadY (s.y + 1#8))

/-- DEC in mode ZP (R112): R163 (D23: UNVERIFIED, unsafe, log 22). -/
def execDecZp (d8 : Byte) (s : State) : Result := .next (s.modifyAt (fun v => v - 1#8) (.zp d8))

/-- DEC in mode ZPX (R113): R163 (D23: UNVERIFIED, unsafe, log 22). -/
def execDecZpx (d8 : Byte) (s : State) : Result := .next (s.modifyAt (fun v => v - 1#8) (.zpx d8))

/-- DEC in mode ABS (R114): R163 (D23: UNVERIFIED, unsafe, log 22). -/
def execDecAbs (a16 : Word) (s : State) : Result := .next (s.modifyAt (fun v => v - 1#8) (.abs a16))

/-- DEC in mode ABX (R115): R163 (D23: UNVERIFIED, unsafe, log 22). -/
def execDecAbx (a16 : Word) (s : State) : Result := .next (s.modifyAt (fun v => v - 1#8) (.abx a16))

/-- DEX: R164 (D23: UNVERIFIED, unsafe, log 22). -/
def execDex (s : State) : Result := .next (s.loadX (s.x - 1#8))

/-- DEY: R165 (D23: UNVERIFIED, unsafe, log 22). -/
def execDey (s : State) : Result := .next (s.loadY (s.y - 1#8))

/-- AND in mode IMM (R111): R166. -/
def execAndImm (d8 : Byte) (s : State) : Result := .next (s.loadA (s.a &&& d8))

/-- AND in mode ZP (R112): R166. -/
def execAndZp (d8 : Byte) (s : State) : Result := .next (s.loadA (s.a &&& (s.dataAt (.zp d8))))

/-- AND in mode ZPX (R113): R166. -/
def execAndZpx (d8 : Byte) (s : State) : Result := .next (s.loadA (s.a &&& (s.dataAt (.zpx d8))))

/-- AND in mode ABS (R114): R166. -/
def execAndAbs (a16 : Word) (s : State) : Result := .next (s.loadA (s.a &&& (s.dataAt (.abs a16))))

/-- AND in mode ABX (R115): R166. -/
def execAndAbx (a16 : Word) (s : State) : Result := .next (s.loadA (s.a &&& (s.dataAt (.abx a16))))

/-- AND in mode ABY (R115): R166. -/
def execAndAby (a16 : Word) (s : State) : Result := .next (s.loadA (s.a &&& (s.dataAt (.aby a16))))

/-- AND in mode IZX (R117): R166. -/
def execAndIzx (d8 : Byte) (s : State) : Result := .next (s.loadA (s.a &&& (s.dataAt (.izx d8))))

/-- AND in mode IZY (R118): R166. -/
def execAndIzy (d8 : Byte) (s : State) : Result := .next (s.loadA (s.a &&& (s.dataAt (.izy d8))))

/-- ORA in mode IMM (R111): R167. -/
def execOraImm (d8 : Byte) (s : State) : Result := .next (s.loadA (s.a ||| d8))

/-- ORA in mode ZP (R112): R167. -/
def execOraZp (d8 : Byte) (s : State) : Result := .next (s.loadA (s.a ||| (s.dataAt (.zp d8))))

/-- ORA in mode ZPX (R113): R167. -/
def execOraZpx (d8 : Byte) (s : State) : Result := .next (s.loadA (s.a ||| (s.dataAt (.zpx d8))))

/-- ORA in mode ABS (R114): R167. -/
def execOraAbs (a16 : Word) (s : State) : Result := .next (s.loadA (s.a ||| (s.dataAt (.abs a16))))

/-- ORA in mode ABX (R115): R167. -/
def execOraAbx (a16 : Word) (s : State) : Result := .next (s.loadA (s.a ||| (s.dataAt (.abx a16))))

/-- ORA in mode ABY (R115): R167. -/
def execOraAby (a16 : Word) (s : State) : Result := .next (s.loadA (s.a ||| (s.dataAt (.aby a16))))

/-- ORA in mode IZX (R117): R167. -/
def execOraIzx (d8 : Byte) (s : State) : Result := .next (s.loadA (s.a ||| (s.dataAt (.izx d8))))

/-- ORA in mode IZY (R118): R167. -/
def execOraIzy (d8 : Byte) (s : State) : Result := .next (s.loadA (s.a ||| (s.dataAt (.izy d8))))

/-- EOR in mode IMM (R111): R168. -/
def execEorImm (d8 : Byte) (s : State) : Result := .next (s.loadA (s.a ^^^ d8))

/-- EOR in mode ZP (R112): R168. -/
def execEorZp (d8 : Byte) (s : State) : Result := .next (s.loadA (s.a ^^^ (s.dataAt (.zp d8))))

/-- EOR in mode ZPX (R113): R168. -/
def execEorZpx (d8 : Byte) (s : State) : Result := .next (s.loadA (s.a ^^^ (s.dataAt (.zpx d8))))

/-- EOR in mode ABS (R114): R168. -/
def execEorAbs (a16 : Word) (s : State) : Result := .next (s.loadA (s.a ^^^ (s.dataAt (.abs a16))))

/-- EOR in mode ABX (R115): R168. -/
def execEorAbx (a16 : Word) (s : State) : Result := .next (s.loadA (s.a ^^^ (s.dataAt (.abx a16))))

/-- EOR in mode ABY (R115): R168. -/
def execEorAby (a16 : Word) (s : State) : Result := .next (s.loadA (s.a ^^^ (s.dataAt (.aby a16))))

/-- EOR in mode IZX (R117): R168. -/
def execEorIzx (d8 : Byte) (s : State) : Result := .next (s.loadA (s.a ^^^ (s.dataAt (.izx d8))))

/-- EOR in mode IZY (R118): R168. -/
def execEorIzy (d8 : Byte) (s : State) : Result := .next (s.loadA (s.a ^^^ (s.dataAt (.izy d8))))

/-- BIT in mode ZP (R112): R169 (D23: UNVERIFIED, unsafe, log 22). -/
def execBitZp (d8 : Byte) (s : State) : Result := .next (s.bitTest (s.dataAt (.zp d8)))

/-- BIT in mode ABS (R114): R169 (D23: UNVERIFIED, unsafe, log 22). -/
def execBitAbs (a16 : Word) (s : State) : Result := .next (s.bitTest (s.dataAt (.abs a16)))

end Sys2Proof.Machine
end

