-- ==== Sys2Proof/Machine/ShiftRotate.lean ====
section
/-! DEFINITION. Shifts and rotates (spec/44_shift_rotate.md R200 to R204).
Each instruction has a definition of its own over the shared operations; it is the handler of loop step 3 (R103),
which sees PC at byte 1 of the instruction and cannot fault (spec/60_exceptions.md R261). -/

namespace Sys2Proof.Machine


/-- ASL in mode ACC (R110): R201. -/
def execAslAcc (s : State) : Result := .next (s.shiftA aslFn)

/-- ASL in mode ZP (R112): R201. -/
def execAslZp (d8 : Byte) (s : State) : Result := .next (s.shiftAt aslFn (.zp d8))

/-- ASL in mode ZPX (R113): R201. -/
def execAslZpx (d8 : Byte) (s : State) : Result := .next (s.shiftAt aslFn (.zpx d8))

/-- ASL in mode ABS (R114): R201. -/
def execAslAbs (a16 : Word) (s : State) : Result := .next (s.shiftAt aslFn (.abs a16))

/-- ASL in mode ABX (R115): R201. -/
def execAslAbx (a16 : Word) (s : State) : Result := .next (s.shiftAt aslFn (.abx a16))

/-- LSR in mode ACC (R110): R202. -/
def execLsrAcc (s : State) : Result := .next (s.shiftA lsrFn)

/-- LSR in mode ZP (R112): R202. -/
def execLsrZp (d8 : Byte) (s : State) : Result := .next (s.shiftAt lsrFn (.zp d8))

/-- LSR in mode ZPX (R113): R202. -/
def execLsrZpx (d8 : Byte) (s : State) : Result := .next (s.shiftAt lsrFn (.zpx d8))

/-- LSR in mode ABS (R114): R202. -/
def execLsrAbs (a16 : Word) (s : State) : Result := .next (s.shiftAt lsrFn (.abs a16))

/-- LSR in mode ABX (R115): R202. -/
def execLsrAbx (a16 : Word) (s : State) : Result := .next (s.shiftAt lsrFn (.abx a16))

/-- ROL in mode ACC (R110): R203. -/
def execRolAcc (s : State) : Result := .next (s.shiftA rolFn)

/-- ROL in mode ZP (R112): R203. -/
def execRolZp (d8 : Byte) (s : State) : Result := .next (s.shiftAt rolFn (.zp d8))

/-- ROL in mode ZPX (R113): R203. -/
def execRolZpx (d8 : Byte) (s : State) : Result := .next (s.shiftAt rolFn (.zpx d8))

/-- ROL in mode ABS (R114): R203. -/
def execRolAbs (a16 : Word) (s : State) : Result := .next (s.shiftAt rolFn (.abs a16))

/-- ROL in mode ABX (R115): R203. -/
def execRolAbx (a16 : Word) (s : State) : Result := .next (s.shiftAt rolFn (.abx a16))

/-- ROR in mode ACC (R110): R204. -/
def execRorAcc (s : State) : Result := .next (s.shiftA rorFn)

/-- ROR in mode ZP (R112): R204. -/
def execRorZp (d8 : Byte) (s : State) : Result := .next (s.shiftAt rorFn (.zp d8))

/-- ROR in mode ZPX (R113): R204. -/
def execRorZpx (d8 : Byte) (s : State) : Result := .next (s.shiftAt rorFn (.zpx d8))

/-- ROR in mode ABS (R114): R204. -/
def execRorAbs (a16 : Word) (s : State) : Result := .next (s.shiftAt rorFn (.abs a16))

/-- ROR in mode ABX (R115): R204. -/
def execRorAbx (a16 : Word) (s : State) : Result := .next (s.shiftAt rorFn (.abx a16))

end Sys2Proof.Machine
end

