-- ==== Sys2Proof/Machine/StackFlagSystem.lean ====
section
/-! DEFINITION. Stack, flag and system instructions (spec/46_stack_flag_system.md R230 to R244).
Each instruction has a definition of its own over the shared operations; it is the handler of loop step 3 (R103),
which sees PC at byte 1 of the instruction and cannot fault (spec/60_exceptions.md R261). -/

namespace Sys2Proof.Machine

/-- The return from interrupt: the status byte is popped first, then the 16-bit return address "directly, with no +1
adjustment" (R244). It re-enables nothing (spec/60_exceptions.md R267). -/
def State.returnFromInterrupt (s : State) : State :=
  (s.drop8.drop16.setP (returnedStatus s.top8)).relocate s.drop8.top16

/-- PHA: R230. -/
def execPha (s : State) : Result := .next (s.push8 s.a)

/-- PHP: R231. -/
def execPhp (s : State) : Result := .next (s.push8 (pushedStatus s.p))

/-- PLA: R232 (D23: UNVERIFIED, unsafe, log 22). -/
def execPla (s : State) : Result := .next (s.drop8.loadA s.top8)

/-- PLP: R233. -/
def execPlp (s : State) : Result := .next (s.drop8.setP (pulledStatus s.top8))

/-- CLC: R234 (D23: UNVERIFIED, unsafe, log 22). -/
def execClc (s : State) : Result := .next (s.setFlag .C false)

/-- SEC: R235 (D23: UNVERIFIED, unsafe, log 22). -/
def execSec (s : State) : Result := .next (s.setFlag .C true)

/-- CLI: R236 (D23: UNVERIFIED, unsafe, log 22). -/
def execCli (s : State) : Result := .next (s.setFlag .I false)

/-- SEI: R237 (D23: UNVERIFIED, unsafe, log 22). -/
def execSei (s : State) : Result := .next (s.setFlag .I true)

/-- CLD: R238 (D23: UNVERIFIED, unsafe, log 22). -/
def execCld (s : State) : Result := .next (s.setFlag .D false)

/-- SED: R239 (D23: UNVERIFIED, unsafe, log 22). -/
def execSed (s : State) : Result := .next (s.setFlag .D true)

/-- CLV: R240 (D23: UNVERIFIED, unsafe, log 22). -/
def execClv (s : State) : Result := .next (s.setFlag .V false)

/-- NOP: R241. -/
def execNop (s : State) : Result := .next s

/-- BRK: R243, the loop then ends the step (R106; D8: UNVERIFIED, unsafe, log 9). -/
def execBrk (s : State) : Result := .next (s.halt)

/-- RTI: R244 (bits 4 and 5: D13, log 14). -/
def execRti (s : State) : Result := .next (s.returnFromInterrupt)

end Sys2Proof.Machine
end

