-- ==== Sys2Proof/Machine/Reset.lean ====
section
/-! DEFINITION. Reset (spec/70_reset_and_hazards.md R290 to R293) and the host's program load and start-up (R295, R296).
These are operations of the host, applied between steps. -/

namespace Sys2Proof.Machine

/-- `VEC_RESET`: the address of the low byte of the reset vector (R6, R290; D3: UNVERIFIED, unsafe, log 3). -/
def vecReset : Word := 0xFFFC#16

/-- The bus at creation: "filled with zeros" (R32, R293). -/
def freshBus : Memory := []

/-- `Reset` applied to a bus (R290): every register at its reset value, PC from the reset vector, the memory as it is. A
CPU has no state before it (R39; log 30). -/
def resetBus (cfg : Config) (m : Memory) : State where
  a      := 0x00#8
  x      := 0x00#8
  y      := 0x00#8
  sp     := cfg.spReset
  pc     := m.read16 vecReset
  p      := cfg.pReset
  mem    := m
  run    := .running
  cycles := 0
  pcw    := false

/-- Reset of a machine in any run state: "always available" and the only way out of a halted state (R292). -/
def State.resetWith (cfg : Config) (s : State) : State := resetBus cfg s.mem

/-- `Load(bytes, start)`: byte writes through the bus in ascending order, the address wrapping modulo 65536 (R296). -/
def loadBytes : Word → List Byte → Memory → Memory
  | _, [], m => m
  | start, b :: rest, m => loadBytes (start + 1#16) rest (m.write start b)

/-- The load a model admits: only one that fits below 65536, "and refuse the others" (R296; D18, log 18). -/
def load? (start : Word) (bytes : List Byte) (m : Memory) : Option Memory :=
  if loadFits start bytes then some (loadBytes start bytes m) else none

/-- A start-up (R293, R295): load the program, point the reset vector at its origin, reset. There is none with parameters
R290 does not admit ("P_RESET[5] = 1 required"), and none with a load that does not fit (R296). -/
def boot? (cfg : Config) (origin : Word) (bytes : List Byte) : Option State :=
  if cfg.wf then (load? origin bytes freshBus).map fun m => resetBus cfg (m.write16 vecReset origin) else none

end Sys2Proof.Machine
end

