-- ==== Sys2Proof/Machine/Loop.lean ====
section
/-! DEFINITION. One step of the fetch-decode-execute loop (spec/40_fetch_execute_addressing.md R100 to R107): fetch and
lookup (loop steps 1, 2), the handler (loop step 3: `exec`), the sequential advance and the cycle total (loop steps
4, 5), for any value of the OPEN parameters. -/

namespace Sys2Proof.Machine

/-- The opcode byte of the next instruction, `MemRead(PC, 1)` (R101). -/
def State.opcodeByte (s : State) : Byte := s.memRead s.pc

/-- The bytes an instruction at PC can occupy: three, at consecutive addresses modulo 65536 (R80, R81). -/
def State.fetchBytes (s : State) : List Byte :=
  [s.memRead s.pc, s.memRead (s.pc + 1#16), s.memRead (s.pc + 2#16)]

/-- Fetch and lookup (R101, R102), with the operand field of the instruction, which is read before anything is written
(R64; log 28). -/
def State.fetch (s : State) : Except DecodeError (Instr × List Byte) := decode s.fetchBytes

/-- `pcw <- false` and `PC <- PC +16 1`: the state the handler starts in (R100, R25). -/
def State.afterOpcode (s : State) : State := (s.setPcw false).setPC (s.pc + 1#16)

/-- Loop step 4: the advance over the operand bytes, unless the handler relocated PC (R104). -/
def State.advance (i : Instr) (s : State) : State :=
  if s.pcw then s else s.setPC (s.pc + BitVec.ofNat 16 (i.length - 1))

/-- Loop step 5: `cycles <- cycles + CYC[op]` (R107). -/
def State.addCycles (cfg : Config) (op : Byte) (s : State) : State := s.setCycles (s.cycles + cfg.cyc op)

/-- What the loop does after the handler: nothing after BRK, which "ends the step at once" (R106), and loop steps 4
and 5 otherwise. `pcw` "does not survive the step" (R35; log 25). -/
def State.endStep (cfg : Config) (op : Byte) (i : Instr) (s : State) : State :=
  (if s.run = .running then (s.advance i).addCycles cfg op else s).setPcw false

/-- `Step` (R100). In a halted state there is none (log 21). A byte without an OpcodeTable entry raises the CORE's one
exception (R102, R260; log 10). -/
def stepWith (cfg : Config) (s : State) : Result :=
  match s.run with
  | .haltedBrk => .fault .afterBreak
  | .haltedFault op addr => .fault (.afterIllegalOpcode op addr)
  | .running =>
    match s.fetch with
    | .error _ => .next (s.afterOpcode.raiseIllegalOpcode s.opcodeByte s.pc)
    | .ok (i, _) =>
      match exec i s.afterOpcode with
      | .next t => .next (t.endStep cfg s.opcodeByte i)
      | .fault r => .fault r
      | .refused r => .refused r

/-- `s` with an instruction of the opcode table's numbering stored where the next step fetches (three bytes, the bits
above `nbits` 0), and running. It stands for a program load by the host (R296; log 19, 27). -/
def State.placeFetchWord (s : State) (nbits w : Nat) : State :=
  (s.setRun .running).setMem (loadBytes s.pc (tableBytes nbits w) s.mem)

end Sys2Proof.Machine
end

