-- ==== Sys2Proof/Machine/Step.lean ====
section
/-! DEFINITION. The step of the machine, with the spec's defaults for the OPEN parameters (spec/00_scope.md R6), and the
host's placement of one instruction. Both call what stands in Machine/Loop.lean. -/

namespace Sys2Proof.Machine

/-- One step (R100) with `CYC` at its default (log 6). -/
def step (s : State) : Host.Outcome State Fault Refusal := stepWith Config.default s

/-- `s` with the instruction word `w` stored where `step` fetches its next instruction (log 27). -/
def State.withFetchWord (s : State) (nbits w : Nat) : State := s.placeFetchWord nbits w

end Sys2Proof.Machine
end

