-- ==== Sys2Proof/Machine/Run.lean ====
section
/-! DEFINITION. The run invocation (spec/40_fetch_execute_addressing.md R125, R127): the loop with its two host arguments,
the optional cycle budget (loop step 6, R108) and the observer (loop step 7, R109). -/

namespace Sys2Proof.Machine

/-- What an observer may read and write: `A X Y SP PC P` and, through the bus, `M`; "It cannot change `run`, `cycles`"
(R109; D20, log 20). -/
structure CpuView where
  a   : Byte
  x   : Byte
  y   : Byte
  sp  : Byte
  pc  : Word
  p   : Byte
  mem : Memory
  deriving DecidableEq, Repr

/-- The observer's view of a state. -/
def State.view (s : State) : CpuView :=
  { a := s.a, x := s.x, y := s.y, sp := s.sp, pc := s.pc, p := s.p, mem := s.mem }

/-- The state an observer leaves. -/
def State.withView (v : CpuView) (s : State) : State :=
  { s with a := v.a, x := v.x, y := v.y, sp := v.sp, pc := v.pc, p := v.p, mem := v.mem }

/-- `OBSERVER`: a host function called once per retired instruction when the loop goes on (R109). It may depend on how many
calls came before in the run, so that an observer with memory of its own is one of these too. -/
abbrev Observer := Nat → CpuView → CpuView

/-- The default observer (R6). -/
def identityObserver : Observer := fun _ v => v

/-- The one call of loop step 7, after `calls` earlier ones. -/
def State.observed (obs : Observer) (calls : Nat) (s : State) : State := s.withView (obs calls s.view)

/-- "it must leave `P` with bit 5 set" (R109), and it reaches memory through the bus only. -/
def Observer.admitted (obs : Observer) : Prop :=
  ∀ (n : Nat) (v : CpuView), v.p.getLsbD 5 = true → v.mem.wf = true → v.mem.hiddenClear = true →
    (obs n v).p.getLsbD 5 = true ∧ (obs n v).mem.wf = true ∧ (obs n v).mem.hiddenClear = true

/-- Loop step 6: the budget is active and "the running total has reached or exceeded it" (R108). -/
def budgetReached (budget : Option Nat) (cycles : Nat) : Bool :=
  match budget with
  | none => false
  | some b => decide (b ≤ cycles)

/-- Why a run invocation ended (R125, R127). -/
inductive RunEnd
  /-- The CORE halted, on BRK or an illegal opcode. -/
  | halted
  /-- The cycle budget was reached; `run` stays Running. -/
  | budget
  /-- The model's own bound on the number of steps ran out: no end state of the CORE (log 26). -/
  | bound
  deriving DecidableEq, Repr

/-- What a run invocation leaves: the state, the number of retired instructions and of observer calls, and why it
ended. -/
structure RunOut where
  state    : State
  retired  : Nat
  observed : Nat
  why      : RunEnd
  deriving DecidableEq, Repr

/-- The `repeat` of `Run` (R125), at most `bound` times, from counts of retired instructions and observer calls. -/
def runLoop (cfg : Config) (budget : Option Nat) (obs : Observer) : Nat → State → Nat → Nat → RunOut
  | 0, s, retired, calls => ⟨s, retired, calls, .bound⟩
  | bound + 1, s, retired, calls =>
    match stepWith cfg s with
    | .fault _ | .refused _ => ⟨s, retired, calls, .halted⟩
    | .next t =>
      if t.run ≠ .running then ⟨t, retired, calls, .halted⟩
      else if budgetReached budget t.cycles then ⟨t, retired + 1, calls, .budget⟩
      else runLoop cfg budget obs bound (t.observed obs calls) (retired + 1) (calls + 1)

/-- `Run(BUDGET, OBSERVER)` for an admitted budget (R125): nothing happens in a halted state (D22); otherwise the cycle
total restarts at 0 (D17, log 17) and the loop runs, here for at most `bound` steps (log 26). -/
def runAdmitted (cfg : Config) (budget : Option Nat) (obs : Observer) (bound : Nat) (s : State) : RunOut :=
  if s.run = .running then runLoop cfg budget obs bound (s.setCycles 0) 0 0 else ⟨s, 0, 0, .halted⟩

/-- `Run(BUDGET, OBSERVER)` (R125): "`some 0` is not admitted", so there is no run invocation with it, and no state and no
end to speak of (D17, log 31). -/
def runInvocation (cfg : Config) (budget : Option Nat) (obs : Observer) (bound : Nat) (s : State) : Option RunOut :=
  if budgetWf budget then some (runAdmitted cfg budget obs bound s) else none

end Sys2Proof.Machine
end

