-- ==== Sys2Proof/Safety.lean ====
section
/-! DEFINITION. What counts as a safe run, in the words claims about programs use (spec/60_exceptions.md R266), and the
invariant of the machine's states. -/

namespace Sys2Proof.Machine

/-- The invariant of every state a run from reset reaches: the memory has its canonical form (R51) and leaves the cells
no address reaches at 0x00 (R32, R52), "the status byte's bit 5 is always logically 1" (R27), and `pcw` is clear
between steps (R35). -/
structure State.Inv (s : State) : Prop where
  memWf       : s.mem.wf = true
  hiddenClear : s.mem.hiddenClear = true
  bit5        : s.flag .U = true
  pcwClear    : s.pcw = false

/-- `t` is reached from `s` by steps alone (the identity observer, no budget). -/
inductive Reaches (cfg : Config) : State → State → Prop
  | refl (s : State) : Reaches cfg s s
  | tail {s t u : State} : Reaches cfg s t → stepWith cfg t = .next u → Reaches cfg s u

/-- `HaltedBrk` is "the defined end of a run" (R266). -/
def EndsNormally (cfg : Config) (s t : State) : Prop := Reaches cfg s t ∧ t.run = .haltedBrk

/-- "no `HaltedFault` is reached" (R266): what a claim about a program has to establish. -/
def NeverFaults (cfg : Config) (s : State) : Prop :=
  ∀ t, Reaches cfg s t → ∀ op addr, t.run ≠ .haltedFault op addr

end Sys2Proof.Machine
end

