-- ==== Sys2Proof/Certificates/Slice0/Obligations.lean ====
section
/-! DEFINITION. The statements for the provers. Each docstring names the rule of spec/ it formalises. The helper
definitions say once what "the register gets v", "Z and N follow v" and "only this byte of memory changes" mean. -/

namespace Sys2Proof.Claims

open Sys2Proof.Machine

/-- The answer is a next state, and it is as `P` says. -/
def NextWith (r : Result) (P : State → Prop) : Prop := ∃ t, r = .next t ∧ P t

/-- Every flag but those of `l` is as before. -/
def FlagsKeptBut (l : List Flag) (s t : State) : Prop := ∀ f, f ∉ l → t.flag f = s.flag f

/-- Z and N follow the byte `v`. -/
def ZNFollow (v : Byte) (t : State) : Prop := t.flag .Z = decide (v = 0#8) ∧ t.flag .N = v.getLsbD 7

/-- Every byte of memory reads as before. -/
def SameBytes (s t : State) : Prop := ∀ b : Word, t.memRead b = s.memRead b

/-- The byte at `ea` reads `v`, and every byte outside its cell reads as before. -/
def OnlyByte (ea : Word) (v : Byte) (s t : State) : Prop :=
  t.memRead ea = v ∧ ∀ b : Word, phys b ≠ phys ea → t.memRead b = s.memRead b

/-- A gets `v`, Z and N follow it, and nothing else changes. -/
def SetsA (v : Byte) (s : State) (r : Result) : Prop :=
  NextWith r fun t => ZNFollow v t ∧ FlagsKeptBut [.Z, .N] s t ∧ SameBytes s t ∧ t = { s with a := v, p := t.p }

/-- X gets `v`, Z and N follow it, and nothing else changes. -/
def SetsX (v : Byte) (s : State) (r : Result) : Prop :=
  NextWith r fun t => ZNFollow v t ∧ FlagsKeptBut [.Z, .N] s t ∧ SameBytes s t ∧ t = { s with x := v, p := t.p }

/-- Y gets `v`, Z and N follow it, and nothing else changes. -/
def SetsY (v : Byte) (s : State) (r : Result) : Prop :=
  NextWith r fun t => ZNFollow v t ∧ FlagsKeptBut [.Z, .N] s t ∧ SameBytes s t ∧ t = { s with y := v, p := t.p }

/-- The byte at `ea` gets `v` and nothing else changes. -/
def Stores (ea : Word) (v : Byte) (s : State) (r : Result) : Prop :=
  NextWith r fun t => OnlyByte ea v s t ∧ t = { s with mem := t.mem }

/-- One flag gets `b` and nothing else changes. -/
def SetsFlag (f : Flag) (b : Bool) (s : State) (r : Result) : Prop :=
  NextWith r fun t => t.flag f = b ∧ FlagsKeptBut [f] s t ∧ SameBytes s t ∧ t = { s with p := t.p }

/-- PC gets `target` by a relocation and nothing else changes. -/
def Relocates (target : Word) (s : State) (r : Result) : Prop :=
  r = .next { s with pc := target, pcw := true }

/-- The signed value of a byte plus or minus others lies outside -128..+127. -/
def SignedOverflow (n : Int) : Prop := n < -128 ∨ 127 < n

/-- The mnemonics that can write each flag (spec/10_state.md R28). -/
def flagWriters : Flag → List Mnemonic
  | .C => [.ADC, .SBC, .CMP, .CPX, .CPY, .ASL, .LSR, .ROL, .ROR, .CLC, .SEC, .PLP, .RTI]
  | .Z => [.LDA, .LDX, .LDY, .TAX, .TAY, .TXA, .TYA, .TSX, .PLA, .INC, .INX, .INY, .DEC, .DEX, .DEY, .AND, .ORA, .EOR,
      .ADC, .SBC, .CMP, .CPX, .CPY, .ASL, .LSR, .ROL, .ROR, .BIT, .PLP, .RTI]
  | .I => [.SEI, .CLI, .PLP, .RTI]
  | .D => [.SED, .CLD, .PLP, .RTI]
  | .B => [.PLP, .RTI]
  | .U => []
  | .V => [.ADC, .SBC, .BIT, .CLV, .PLP, .RTI]
  | .N => [.LDA, .LDX, .LDY, .TAX, .TAY, .TXA, .TYA, .TSX, .PLA, .INC, .INX, .INY, .DEC, .DEX, .DEY, .AND, .ORA, .EOR,
      .ADC, .SBC, .CMP, .CPX, .CPY, .ASL, .LSR, .ROL, .ROR, .BIT, .PLP, .RTI]

/-- The shift and rotate mnemonics. -/
def shifts : List Mnemonic := [.ASL, .LSR, .ROL, .ROR]

/-- The branch mnemonics. -/
def branches : List Mnemonic := [.BCC, .BCS, .BEQ, .BNE, .BMI, .BPL, .BVC, .BVS]

/-- The condition a branch tests (spec/45_branch_jump_call.md R211 to R218); other mnemonics are no branches. -/
def branchCondition (s : State) : Mnemonic → Option Bool
  | .BCC => some (!s.flag .C) | .BCS => some (s.flag .C)
  | .BEQ => some (s.flag .Z) | .BNE => some (!s.flag .Z)
  | .BMI => some (s.flag .N) | .BPL => some (!s.flag .N)
  | .BVC => some (!s.flag .V) | .BVS => some (s.flag .V)
  | _ => none

/-- What a shift or rotate makes of the byte value `v` and the old carry `c`: the result and the bit shifted out
(spec/44_shift_rotate.md R201 to R204, in arithmetic). -/
def shiftValue (v c : Nat) : Mnemonic → Option (Nat × Nat)
  | .ASL => some ((2 * v) % 256, v / 128)
  | .LSR => some (v / 2, v % 2)
  | .ROL => some ((2 * v + c) % 256, v / 128)
  | .ROR => some (v / 2 + 128 * c, v % 2)
  | _ => none

/-- The 105 illegal opcode bytes as R87 lists them. -/
def illegalBytes : List Nat :=
  [0x02, 0x03, 0x04, 0x07, 0x0B, 0x0C, 0x0F, 0x12, 0x13, 0x14, 0x17, 0x1A, 0x1B, 0x1C, 0x1F,
   0x22, 0x23, 0x27, 0x2B, 0x2F, 0x32, 0x33, 0x34, 0x37, 0x3A, 0x3B, 0x3C, 0x3F,
   0x42, 0x43, 0x44, 0x47, 0x4B, 0x4F, 0x52, 0x53, 0x54, 0x57, 0x5A, 0x5B, 0x5C, 0x5F] ++
  [0x62, 0x63, 0x64, 0x67, 0x6B, 0x6F, 0x72, 0x73, 0x74, 0x77, 0x7A, 0x7B, 0x7C, 0x7F,
   0x80, 0x82, 0x83, 0x87, 0x89, 0x8B, 0x8F, 0x92, 0x93, 0x97, 0x9B, 0x9C, 0x9E, 0x9F,
   0xA3, 0xA7, 0xAB, 0xAF, 0xB2, 0xB3, 0xB7, 0xBB, 0xBF] ++
  [0xC2, 0xC3, 0xC7, 0xCB, 0xCF, 0xD2, 0xD3, 0xD4, 0xD7, 0xDA, 0xDB, 0xDC, 0xDF,
   0xE2, 0xE3, 0xE7, 0xEB, 0xEF, 0xF2, 0xF3, 0xF4, 0xF7, 0xFA, 0xFB, 0xFC, 0xFF]

/-- `n` steps, stopping where there is none. -/
def stepsOf (cfg : Config) : Nat → State → State
  | 0, s => s
  | n + 1, s =>
    match stepWith cfg s with
    | .next t => stepsOf cfg n t
    | .fault _ | .refused _ => s

/-! ### The step as the rules' pseudocode has it

The handlers read their operand bytes themselves, from memory at PC, by mnemonic and addressing mode (R100, R103, R126
and the rule of each instruction). -/

/-- `EA(mode)` with the operand bytes read at PC (R111 to R119). IMP and ACC have none; the value here is never used. -/
def bookEA (s : State) : Mode → Word
  | .IMP | .ACC | .IMM => s.pc
  | .ZP => zext16 (s.memRead s.pc)
  | .ZPX => zext16 (s.memRead s.pc + s.x)
  | .ZPY => zext16 (s.memRead s.pc + s.y)
  | .ABS => s.memRead16 s.pc
  | .ABX => s.memRead16 s.pc + zext16 s.x
  | .ABY => s.memRead16 s.pc + zext16 s.y
  | .IND =>
    let ptr := s.memRead16 s.pc
    let lo := s.memRead ptr
    let hi := if loByte ptr = 0xFF#8 then s.memRead (ptr &&& 0xFF00#16) else s.memRead (ptr + 1#16)
    wordOfBytes hi lo
  | .IZX =>
    let zp := s.memRead s.pc + s.x
    wordOfBytes (s.memRead (zext16 (zp + 1#8))) (s.memRead (zext16 zp))
  | .IZY =>
    let zp := s.memRead s.pc
    wordOfBytes (s.memRead (zext16 (zp + 1#8))) (s.memRead (zext16 zp)) + zext16 s.y
  | .REL => s.pc + 1#16 + sext16 (s.memRead s.pc)

/-- `Operand(mode)` (R126). -/
def bookOperand (s : State) (mode : Mode) : Byte := s.memRead (bookEA s mode)

/-- `Branch(cond)` (R210). -/
def bookBranch (s : State) (cond : Bool) : State := if cond then { s with pc := bookEA s .REL, pcw := true } else s

/-- ADC's rule with `m` for the operand (R181). -/
def bookAdd (s : State) (m : Byte) : State :=
  let o := addCore s.a m (s.flag .C)
  { (s.setFlag .C o.cout).setFlag .V o.vout with a := o.r }.setZN o.r

/-- INC and DEC with their new byte (R160, R163). -/
def bookModify (s : State) (mode : Mode) (f : Byte → Byte) : State :=
  (s.memWrite (bookEA s mode) (f (bookOperand s mode))).setZN (f (bookOperand s mode))

/-- The shift family with its function (R200). -/
def bookShift (s : State) (mode : Mode) (f : Byte → Bool → ShiftOut) : State :=
  if mode = .ACC then
    (({ s with a := (f s.a (s.flag .C)).r }).setFlag .C (f s.a (s.flag .C)).cout).setZN (f s.a (s.flag .C)).r
  else
    let o := f (bookOperand s mode) (s.flag .C)
    ((s.memWrite (bookEA s mode) o.r).setFlag .C o.cout).setZN o.r

/-- `Exec(mnemonic, mode)`: the pseudocode of files 41 to 46. -/
def bookExec (s : State) (mode : Mode) : Mnemonic → State
  | .LDA => { s with a := bookOperand s mode }.setZN (bookOperand s mode)
  | .LDX => { s with x := bookOperand s mode }.setZN (bookOperand s mode)
  | .LDY => { s with y := bookOperand s mode }.setZN (bookOperand s mode)
  | .STA => s.memWrite (bookEA s mode) s.a
  | .STX => s.memWrite (bookEA s mode) s.x
  | .STY => s.memWrite (bookEA s mode) s.y
  | .TAX => { s with x := s.a }.setZN s.a
  | .TAY => { s with y := s.a }.setZN s.a
  | .TXA => { s with a := s.x }.setZN s.x
  | .TYA => { s with a := s.y }.setZN s.y
  | .TSX => { s with x := s.sp }.setZN s.sp
  | .TXS => { s with sp := s.x }
  | .INC => bookModify s mode (· + 1#8)
  | .INX => { s with x := s.x + 1#8 }.setZN (s.x + 1#8)
  | .INY => { s with y := s.y + 1#8 }.setZN (s.y + 1#8)
  | .DEC => bookModify s mode (· - 1#8)
  | .DEX => { s with x := s.x - 1#8 }.setZN (s.x - 1#8)
  | .DEY => { s with y := s.y - 1#8 }.setZN (s.y - 1#8)
  | .AND => { s with a := s.a &&& bookOperand s mode }.setZN (s.a &&& bookOperand s mode)
  | .ORA => { s with a := s.a ||| bookOperand s mode }.setZN (s.a ||| bookOperand s mode)
  | .EOR => { s with a := s.a ^^^ bookOperand s mode }.setZN (s.a ^^^ bookOperand s mode)
  | .BIT => s.bitTest (bookOperand s mode)
  | .ADC => bookAdd s (bookOperand s mode)
  | .SBC => bookAdd s (~~~bookOperand s mode)
  | .CMP => s.compare s.a (bookOperand s mode)
  | .CPX => s.compare s.x (bookOperand s mode)
  | .CPY => s.compare s.y (bookOperand s mode)
  | .ASL => bookShift s mode aslFn
  | .LSR => bookShift s mode lsrFn
  | .ROL => bookShift s mode rolFn
  | .ROR => bookShift s mode rorFn
  | .BCC => bookBranch s (!s.flag .C)
  | .BCS => bookBranch s (s.flag .C)
  | .BEQ => bookBranch s (s.flag .Z)
  | .BNE => bookBranch s (!s.flag .Z)
  | .BMI => bookBranch s (s.flag .N)
  | .BPL => bookBranch s (!s.flag .N)
  | .BVC => bookBranch s (!s.flag .V)
  | .BVS => bookBranch s (s.flag .V)
  | .JSR =>
    let t := s.memRead16 s.pc
    { s.push16 (s.pc + 1#16) with pc := t, pcw := true }
  | .RTS => { s.drop16 with pc := s.top16 + 1#16, pcw := true }
  | .JMP => { s with pc := bookEA s mode, pcw := true }
  | .PHA => s.push8 s.a
  | .PHP => s.push8 (s.p ||| 0x10#8 ||| 0x20#8)
  | .PLA => { s.drop8 with a := s.top8 }.setZN s.top8
  | .PLP => { s.drop8 with p := (s.top8 &&& 0xEF#8) ||| 0x20#8 }
  | .CLC => s.setFlag .C false
  | .SEC => s.setFlag .C true
  | .CLI => s.setFlag .I false
  | .SEI => s.setFlag .I true
  | .CLD => s.setFlag .D false
  | .SED => s.setFlag .D true
  | .CLV => s.setFlag .V false
  | .NOP => s
  | .BRK => { s with run := .haltedBrk }
  | .RTI => { s.drop8.drop16 with p := s.top8 ||| 0x20#8, pc := s.drop8.top16, pcw := true }

/-- `Step` of R100, for `run = Running`. -/
def bookStep (cfg : Config) (s : State) : State :=
  let p0 := s.pc
  let op := s.memRead p0
  let s1 := { s with pcw := false, pc := p0 + 1#16 }
  match entryOf? op with
  | none => { s1 with run := .haltedFault op p0 }
  | some e =>
    if e.mnemonic = .BRK then { s1 with run := .haltedBrk }
    else
      let s2 := bookExec s1 e.mode e.mnemonic
      let s3 := if s2.pcw then s2 else { s2 with pc := s2.pc + BitVec.ofNat 16 (e.length - 1) }
      { s3 with cycles := s3.cycles + cfg.cyc op }

end Sys2Proof.Claims

open Sys2Proof Sys2Proof.Machine Sys2Proof.Claims

/-! ### The bus (spec/20_memory.md) -/

/-- R52: the decode, and what it implies for each cell and for word accesses. -/
def Obligations.PhysFoldsTheMirroredRange : Prop :=
  (∀ a : Word, (a.toNat ≤ 0x1FFF → phys a = (a &&& 0x07FF#16).toNat ∧ phys a = a.toNat % 0x0800) ∧
    (0x2000 ≤ a.toNat → phys a = a.toNat)) ∧
  (∀ (i : Nat) (a : Word), i ≤ 0x07FF →
    (phys a = i ↔ a.toNat = i ∨ a.toNat = i + 0x0800 ∨ a.toNat = i + 0x1000 ∨ a.toNat = i + 0x1800)) ∧
  (∀ (i : Nat) (a : Word), 0x2000 ≤ i → (phys a = i ↔ a.toNat = i)) ∧
  (∀ a : Word, ¬ (0x0800 ≤ phys a ∧ phys a ≤ 0x1FFF)) ∧
  (∀ m : Memory, m.read16 0x1FFF#16 = wordOfBytes (m.readCell 0x2000) (m.readCell 0x07FF) ∧
    m.read16 0x07FF#16 = wordOfBytes (m.readCell 0x0000) (m.readCell 0x07FF)) ∧
  ∀ a : Word, phys a ≠ phys (a + 1#16)

/-- R53, R54: a byte read answers the cell the address decodes to; a byte write changes that cell and nothing else. -/
def Obligations.BusReadsAndWritesOneCell : Prop :=
  ∀ (s : State) (a : Word) (v : Byte), s.memRead a = s.mem.readCell (phys a) ∧
    s.memWrite a v = { s with mem := (s.memWrite a v).mem } ∧
    (s.mem.wf = true → ∀ k, (s.memWrite a v).mem.readCell k = if k = phys a then v else s.mem.readCell k)

/-- R57: the laws the document states as testable properties. -/
def Obligations.BusRoundTripsThroughMirrors : Prop :=
  ∀ m : Memory, m.wf = true →
    (∀ (a b : Word) (v : Byte), a.toNat ≤ 0x1FFF → b.toNat ≤ 0x1FFF → b.toNat % 0x0800 = a.toNat % 0x0800 →
      (m.write a v).read (a &&& 0x07FF#16) = v ∧ (m.write a v).read b = v) ∧
    (∀ a w : Word, (m.write16 a w).read16 a = w) ∧
    ∀ (a b : Word) (v : Byte), phys b ≠ phys a → (m.write a v).read b = m.read b

/-! ### Shared primitives (spec/40_fetch_execute_addressing.md section 3) -/

/-- R120: SetZN writes Z and N from the byte and no other flag. -/
def Obligations.SetZNWritesZeroAndNegative : Prop :=
  ∀ (v : Byte) (s : State), ZNFollow v (s.setZN v) ∧ FlagsKeptBut [.Z, .N] s (s.setZN v) ∧
    s.setZN v = { s with p := (s.setZN v).p }

/-- R121, R122: a push writes then decrements, a pop increments then reads, both within page 1. The page 0x0100 is
the spec's decision D6 (log 7). -/
def Obligations.PushAndPopStayInTheStackPage : Prop :=
  ∀ (s : State) (v : Byte), s.mem.wf = true →
    (s.push8 v).sp.toNat = (s.sp.toNat + 255) % 256 ∧
    OnlyByte (BitVec.ofNat 16 (0x0100 + s.sp.toNat)) v s (s.push8 v) ∧
    s.push8 v = { s with sp := (s.push8 v).sp, mem := (s.push8 v).mem } ∧
    s.drop8.sp.toNat = (s.sp.toNat + 1) % 256 ∧
    s.top8 = s.memRead (BitVec.ofNat 16 (0x0100 + s.drop8.sp.toNat)) ∧
    s.drop8 = { s with sp := s.drop8.sp }

/-- R123, R124: where a pushed word lies, and that a pop right after it gives it back with SP. The page is D6 (log
7). -/
def Obligations.PoppedWordIsThePushedOne : Prop :=
  ∀ (s : State) (w : Word), s.mem.wf = true →
    (s.push16 w).sp = s.sp - 2#8 ∧
    (s.push16 w).memRead (stackAddr s.sp) = hiByte w ∧
    (s.push16 w).memRead (stackAddr (s.sp - 1#8)) = loByte w ∧
    (∀ b : Word, phys b ≠ phys (stackAddr s.sp) → phys b ≠ phys (stackAddr (s.sp - 1#8)) →
      (s.push16 w).memRead b = s.memRead b) ∧
    (s.push16 w).top16 = w ∧ (s.push16 w).drop16.sp = s.sp

/-! ### The resolver (R110 to R119) -/

/-- R110, R112 to R115: the modes without a pointer, from the operand bytes in memory at PC. The fetch reads the
operand bytes before the handler runs (log 28). -/
def Obligations.ResolverDirectAndIndexedModes : Prop :=
  ∀ (s : State) (i : Instr) (rest : List Byte), s.fetch = .ok (i, rest) →
    let h := s.afterOpcode
    (i.mode = .IMP ∨ i.mode = .ACC → h.resolve i.operand = none ∧ i.length = 1) ∧
    (i.mode = .ZP → i.length = 2 ∧ ∃ ea, h.resolve i.operand = some ea ∧ ea.toNat = (h.memRead h.pc).toNat) ∧
    (i.mode = .ZPX → i.length = 2 ∧
      ∃ ea, h.resolve i.operand = some ea ∧ ea.toNat = ((h.memRead h.pc).toNat + h.x.toNat) % 256) ∧
    (i.mode = .ZPY → i.length = 2 ∧
      ∃ ea, h.resolve i.operand = some ea ∧ ea.toNat = ((h.memRead h.pc).toNat + h.y.toNat) % 256) ∧
    (i.mode = .ABS → i.length = 3 ∧ h.resolve i.operand = some (h.memRead16 h.pc)) ∧
    (i.mode = .ABX → i.length = 3 ∧
      ∃ ea, h.resolve i.operand = some ea ∧ ea.toNat = ((h.memRead16 h.pc).toNat + h.x.toNat) % 65536) ∧
    (i.mode = .ABY → i.length = 3 ∧
      ∃ ea, h.resolve i.operand = some ea ∧ ea.toNat = ((h.memRead16 h.pc).toNat + h.y.toNat) % 65536)

/-- R116, R117: the pointer modes that the document gives exactly, with their page wraps. -/
def Obligations.ResolverPointerModes : Prop :=
  ∀ (s : State) (i : Instr) (rest : List Byte), s.fetch = .ok (i, rest) →
    let h := s.afterOpcode
    (i.mode = .IND → i.length = 3 ∧ h.resolve i.operand = some (
      let ptr := h.memRead16 h.pc
      if ptr.toNat % 256 = 0xFF then wordOfBytes (h.memRead (ptr &&& 0xFF00#16)) (h.memRead ptr)
      else h.memRead16 ptr)) ∧
    (i.mode = .IZX → i.length = 2 ∧ h.resolve i.operand = some (
      let zp := ((h.memRead h.pc).toNat + h.x.toNat) % 256
      wordOfBytes (h.memRead (BitVec.ofNat 16 ((zp + 1) % 256))) (h.memRead (BitVec.ofNat 16 zp))))

/-- R119: the branch target, relative to the address after the displacement byte. The wrap modulo 65536 is D26 (log
32). -/
def Obligations.ResolverRelativeMode : Prop :=
  ∀ (s : State) (i : Instr) (rest : List Byte), s.fetch = .ok (i, rest) → i.mode = .REL →
    i.length = 2 ∧ s.afterOpcode.resolve i.operand =
      some (BitVec.ofInt 16 (s.pc.toNat + 2 + (s.memRead (s.pc + 1#16)).toInt))

/-- R111 (D25) and R118 (D12): immediate mode, and (zp),Y with its pointer wrap in page 0, which is the spec's own
decision (log 13, 28). -/
def Obligations.ResolverImmediateAndIndirectIndexed : Prop :=
  ∀ (s : State) (i : Instr) (rest : List Byte), s.fetch = .ok (i, rest) →
    let h := s.afterOpcode
    (i.mode = .IMM → i.length = 2 ∧ h.resolve i.operand = some h.pc ∧
      h.operandByte? i.operand = some (h.memRead h.pc)) ∧
    (i.mode = .IZY → i.length = 2 ∧ ∃ ea, h.resolve i.operand = some ea ∧
      let zp := (h.memRead h.pc).toNat
      ea.toNat = ((wordOfBytes (h.memRead (BitVec.ofNat 16 ((zp + 1) % 256))) (h.memRead (BitVec.ofNat 16 zp))).toNat
        + h.y.toNat) % 65536)

/-! ### Loads, stores, transfers (spec/41_load_store_transfer.md) -/

/-- LDA, LDX, LDY in every mode: the register gets the operand byte, Z and N follow it, nothing else changes. Which
register each loads is D23 (log 22). -/
def Obligations.LoadsPutTheOperandInTheRegister : Prop :=
  ∀ (i : Instr) (s : State), i.mnemonic ∈ [.LDA, .LDX, .LDY] → ∃ v, s.operandByte? i.operand = some v ∧
    (i.mnemonic = .LDA → SetsA v s (exec i s)) ∧ (i.mnemonic = .LDX → SetsX v s (exec i s)) ∧
    (i.mnemonic = .LDY → SetsY v s (exec i s))

/-- STA, STX, STY in every mode: the byte at EA gets the register, no flag and nothing else changes. The stores are
D23 (log 22). -/
def Obligations.StoresPutTheRegisterAtEA : Prop :=
  ∀ (i : Instr) (s : State), s.mem.wf = true → i.mnemonic ∈ [.STA, .STX, .STY] → ∃ m, i.operand = .mem m ∧
    (i.mnemonic = .STA → Stores (m.ea s) s.a s (exec i s)) ∧ (i.mnemonic = .STX → Stores (m.ea s) s.x s (exec i s)) ∧
    (i.mnemonic = .STY → Stores (m.ea s) s.y s (exec i s))

/-- TAX, TAY, TXA, TYA, TSX copy a register and set Z and N; TXS copies X to SP and writes no flag (D11, log 12). -/
def Obligations.TransfersCopyRegisters : Prop :=
  ∀ s : State, SetsX s.a s (exec .tax s) ∧ SetsY s.a s (exec .tay s) ∧ SetsA s.x s (exec .txa s) ∧
    SetsA s.y s (exec .tya s) ∧ SetsX s.sp s (exec .tsx s) ∧ exec .txs s = .next { s with sp := s.x }

/-! ### Increments, decrements, logic, BIT (spec/42_incdec_logic.md) -/

/-- INC and DEC in every mode: the byte at EA changes by one modulo 256, Z and N follow it, C, V and the registers
keep their values. INC and DEC are D23 (log 22). -/
def Obligations.IncrementsAndDecrementsOfMemory : Prop :=
  ∀ (i : Instr) (s : State), s.mem.wf = true → i.mnemonic ∈ [.INC, .DEC] → ∃ m r, i.operand = .mem m ∧
    (i.mnemonic = .INC → r.toNat = ((s.memRead (m.ea s)).toNat + 1) % 256) ∧
    (i.mnemonic = .DEC → r.toNat = ((s.memRead (m.ea s)).toNat + 255) % 256) ∧
    NextWith (exec i s) fun t => OnlyByte (m.ea s) r s t ∧ ZNFollow r t ∧ FlagsKeptBut [.Z, .N] s t ∧
      t = { s with p := t.p, mem := t.mem }

/-- INX, INY, DEX, DEY: the index register changes by one modulo 256, Z and N follow it, nothing else changes. Which
register each changes is D23 (log 22). -/
def Obligations.IncrementsAndDecrementsOfRegisters : Prop :=
  ∀ s : State, SetsX (BitVec.ofNat 8 (s.x.toNat + 1)) s (exec .inx s) ∧
    SetsY (BitVec.ofNat 8 (s.y.toNat + 1)) s (exec .iny s) ∧
    SetsX (BitVec.ofNat 8 (s.x.toNat + 255)) s (exec .dex s) ∧
    SetsY (BitVec.ofNat 8 (s.y.toNat + 255)) s (exec .dey s)

/-- AND, ORA, EOR in every mode: each bit of A is combined with the operand's, Z and N follow, nothing else changes. -/
def Obligations.LogicCombinesTheAccumulator : Prop :=
  ∀ (i : Instr) (s : State), i.mnemonic ∈ [.AND, .ORA, .EOR] → ∃ v r, s.operandByte? i.operand = some v ∧
    (i.mnemonic = .AND → ∀ k, r.getLsbD k = (s.a.getLsbD k && v.getLsbD k)) ∧
    (i.mnemonic = .ORA → ∀ k, r.getLsbD k = (s.a.getLsbD k || v.getLsbD k)) ∧
    (i.mnemonic = .EOR → ∀ k, r.getLsbD k = (s.a.getLsbD k ^^ v.getLsbD k)) ∧ SetsA r s (exec i s)

/-- BIT in both modes: Z from `A & m`, N and V from bits 7 and 6 of the memory byte, nothing else changes (R169, which
the spec supplies from general knowledge: D23, log 22). -/
def Obligations.BitTestsMemoryAgainstTheAccumulator : Prop :=
  ∀ (i : Instr) (s : State), i.mnemonic = .BIT → ∃ v, s.operandByte? i.operand = some v ∧
    NextWith (exec i s) fun t => (t.flag .Z = true ↔ ∀ k, ¬ (s.a.getLsbD k = true ∧ v.getLsbD k = true)) ∧
      t.flag .N = v.getLsbD 7 ∧ t.flag .V = v.getLsbD 6 ∧ FlagsKeptBut [.Z, .N, .V] s t ∧ SameBytes s t ∧
      t = { s with p := t.p }

/-! ### Arithmetic and compare (spec/43_arithmetic_compare.md) -/

/-- R180: the adder's result, its carry out, and its overflow in both readings. -/
def Obligations.AdderGivesSumCarryAndOverflow : Prop :=
  ∀ (a m : Byte) (c : Bool),
    (addCore a m c).r.toNat = (a.toNat + m.toNat + c.toNat) % 256 ∧
    ((addCore a m c).cout = true ↔ 256 ≤ a.toNat + m.toNat + c.toNat) ∧
    ((addCore a m c).vout = true ↔
      a.getLsbD 7 = m.getLsbD 7 ∧ (addCore a m c).r.getLsbD 7 ≠ a.getLsbD 7) ∧
    ((addCore a m c).vout = true ↔ SignedOverflow (a.toInt + m.toInt + c.toNat))

/-- ADC in every mode, whatever P.D holds (R181; R182, the spec's own decision D10, log 11). -/
def Obligations.AddWithCarry : Prop :=
  ∀ (i : Instr) (s : State), i.mnemonic = .ADC → ∃ v, s.operandByte? i.operand = some v ∧
    NextWith (exec i s) fun t =>
      t.a.toNat = (s.a.toNat + v.toNat + (s.flag .C).toNat) % 256 ∧
      (t.flag .C = true ↔ 256 ≤ s.a.toNat + v.toNat + (s.flag .C).toNat) ∧
      (t.flag .V = true ↔ SignedOverflow (s.a.toInt + v.toInt + (s.flag .C).toNat)) ∧
      ZNFollow t.a t ∧ FlagsKeptBut [.C, .V, .Z, .N] s t ∧ SameBytes s t ∧ t = { s with a := t.a, p := t.p }

/-- SBC in every mode: the subtraction with borrow, whatever P.D holds (R183; R182, D10, log 11). -/
def Obligations.SubtractWithBorrow : Prop :=
  ∀ (i : Instr) (s : State), i.mnemonic = .SBC → ∃ v, s.operandByte? i.operand = some v ∧
    NextWith (exec i s) fun t =>
      (t.a.toNat : Int) = ((s.a.toNat : Int) - v.toNat - (1 - (s.flag .C).toNat)) % 256 ∧
      (t.flag .C = true ↔ v.toNat + (1 - (s.flag .C).toNat) ≤ s.a.toNat) ∧
      (t.flag .V = true ↔ SignedOverflow (s.a.toInt - v.toInt - (1 - ((s.flag .C).toNat : Int)))) ∧
      ZNFollow t.a t ∧ FlagsKeptBut [.C, .V, .Z, .N] s t ∧ SameBytes s t ∧ t = { s with a := t.a, p := t.p }

/-- R184 for CMP, CPX and CPY in every mode: C from the unsigned comparison, Z and N from the truncated difference; V,
the carry-in, every register and memory play no part. -/
def Obligations.ComparesSetCarryZeroNegative : Prop :=
  ∀ (i : Instr) (s : State), i.mnemonic ∈ [.CMP, .CPX, .CPY] → ∃ v reg, s.operandByte? i.operand = some v ∧
    (i.mnemonic = .CMP → reg = s.a) ∧ (i.mnemonic = .CPX → reg = s.x) ∧ (i.mnemonic = .CPY → reg = s.y) ∧
    NextWith (exec i s) fun t => (t.flag .C = true ↔ v.toNat ≤ reg.toNat) ∧ (t.flag .Z = true ↔ reg = v) ∧
      (t.flag .N = true ↔ 128 ≤ (reg.toNat + 256 - v.toNat) % 256) ∧ FlagsKeptBut [.C, .Z, .N] s t ∧ SameBytes s t ∧
      t = { s with p := t.p }

/-! ### Shifts and rotates (spec/44_shift_rotate.md) -/

/-- ASL, LSR, ROL, ROR of the accumulator: the result and the carry by arithmetic, nothing else changes. The
direction of each is D23 (log 22). -/
def Obligations.ShiftsOfTheAccumulator : Prop :=
  ∀ (i : Instr) (s : State), i.mnemonic ∈ shifts → i.mode = .ACC →
    NextWith (exec i s) fun t =>
      shiftValue s.a.toNat (s.flag .C).toNat i.mnemonic = some (t.a.toNat, (t.flag .C).toNat) ∧
      ZNFollow t.a t ∧ FlagsKeptBut [.C, .Z, .N] s t ∧ SameBytes s t ∧ t = { s with a := t.a, p := t.p }

/-- ASL, LSR, ROL, ROR of a memory byte in every memory mode: one read and one write of EA; A is not touched. The
direction of each is D23 (log 22). -/
def Obligations.ShiftsOfMemory : Prop :=
  ∀ (i : Instr) (s : State), s.mem.wf = true → i.mnemonic ∈ shifts → i.mode ≠ .ACC → ∃ m r, i.operand = .mem m ∧
    NextWith (exec i s) fun t =>
      shiftValue (s.memRead (m.ea s)).toNat (s.flag .C).toNat i.mnemonic = some (r.toNat, (t.flag .C).toNat) ∧
      OnlyByte (m.ea s) r s t ∧ ZNFollow r t ∧ FlagsKeptBut [.C, .Z, .N] s t ∧ t = { s with p := t.p, mem := t.mem }

/-! ### Branches, jumps, call, return (spec/45_branch_jump_call.md) -/

/-- The eight branches: a relocation to EA when the one flag it tests says so, nothing at all otherwise. Which flag
each tests is D23 (log 22). -/
def Obligations.BranchesTestOneFlag : Prop :=
  ∀ (i : Instr) (s : State), i.mnemonic ∈ branches → ∃ c target, branchCondition s i.mnemonic = some c ∧
    s.resolve i.operand = some target ∧
    (c = true → Relocates target s (exec i s)) ∧ (c = false → exec i s = .next s)

/-- JSR: pushes the address of its own last byte, high byte first, and relocates to its operand (R219; D14, log 15).
The stack page is D6 (log 7). -/
def Obligations.CallPushesItsLastByteAddress : Prop :=
  ∀ (s : State) (target : Word), s.mem.wf = true →
    NextWith (exec (.jsr target) s) fun t =>
      t.memRead (stackAddr s.sp) = hiByte (s.pc + 1#16) ∧ t.memRead (stackAddr (s.sp - 1#8)) = loByte (s.pc + 1#16) ∧
      (∀ b : Word, phys b ≠ phys (stackAddr s.sp) → phys b ≠ phys (stackAddr (s.sp - 1#8)) →
        t.memRead b = s.memRead b) ∧
      t = { s with sp := s.sp - 2#8, pc := target, mem := t.mem, pcw := true }

/-- RTS: relocates to the popped word plus one (R220). The stack page is D6 (log 7). -/
def Obligations.ReturnResumesAfterThePoppedAddress : Prop :=
  ∀ s : State, exec .rts s = .next { s with
    sp := s.sp + 2#8
    pc := wordOfBytes (s.memRead (stackAddr (s.sp + 2#8))) (s.memRead (stackAddr (s.sp + 1#8))) + 1#16
    pcw := true }

/-- JSR then RTS with the stack as JSR left it: execution resumes at P + 3, with SP and every other register as
before (R219, R220: "the paired RTS resumes execution at P+3"). The stack page is D6 (log 7). -/
def Obligations.ReturnPairsWithCall : Prop :=
  ∀ (s : State) (target pc' : Word), s.mem.wf = true →
    NextWith (exec (.jsr target) s) fun t =>
      NextWith (exec .rts { t with pc := pc', pcw := false }) fun u =>
        u = { s with pc := s.pc + 2#16, mem := t.mem, pcw := true }

/-- JMP in both modes: a relocation to EA and nothing else (R221). -/
def Obligations.JumpRelocatesToEA : Prop :=
  ∀ (i : Instr) (s : State), i.mnemonic = .JMP → ∃ target, s.resolve i.operand = some target ∧
    Relocates target s (exec i s)

/-! ### Stack, flag and system instructions (spec/46_stack_flag_system.md) -/

/-- PHA pushes A; PHP pushes P with bits 4 and 5 forced to 1; neither changes A, P or another register (R230, R231).
The page is D6 (log 7), bit 5 of the pushed byte D28 (log 33). -/
def Obligations.PushesOfAccumulatorAndStatus : Prop :=
  ∀ s : State, s.mem.wf = true →
    (NextWith (exec .pha s) fun t => OnlyByte (stackAddr s.sp) s.a s t ∧
      t = { s with sp := s.sp - 1#8, mem := t.mem }) ∧
    ∃ v : Byte, v.getLsbD 4 = true ∧ v.getLsbD 5 = true ∧ (∀ k, k ≠ 4 → k ≠ 5 → v.getLsbD k = s.p.getLsbD k) ∧
      NextWith (exec .php s) fun t => OnlyByte (stackAddr s.sp) v s t ∧ t = { s with sp := s.sp - 1#8, mem := t.mem }

/-- PLA: A gets the byte above SP, Z and N follow it (R232; the flags are D23, log 22). -/
def Obligations.PullOfAccumulator : Prop :=
  ∀ s : State, NextWith (exec .pla s) fun t =>
    ZNFollow (s.memRead (stackAddr (s.sp + 1#8))) t ∧ FlagsKeptBut [.Z, .N] s t ∧ SameBytes s t ∧
    t = { s with a := s.memRead (stackAddr (s.sp + 1#8)), sp := s.sp + 1#8, p := t.p }

/-- PLP: six flags from the pulled byte, B cleared, bit 5 set (R233). The positions of the flags in the byte are D2
(log 2). -/
def Obligations.PullOfStatusMasksBreak : Prop :=
  ∀ s : State, NextWith (exec .plp s) fun t =>
    (∀ f : Flag, f ≠ .B → f ≠ .U → t.flag f = (s.memRead (stackAddr (s.sp + 1#8))).getLsbD f.bit) ∧
    t.flag .B = false ∧ t.flag .U = true ∧ SameBytes s t ∧ t = { s with sp := s.sp + 1#8, p := t.p }

/-- RTI: seven flags from the popped byte, bit 5 set (R244; D13, log 14), and the PC popped with no +1. -/
def Obligations.ReturnFromInterruptRestoresStatusAndPC : Prop :=
  ∀ s : State, NextWith (exec .rti s) fun t =>
    (∀ f : Flag, f ≠ .U → t.flag f = (s.memRead (stackAddr (s.sp + 1#8))).getLsbD f.bit) ∧ t.flag .U = true ∧
    SameBytes s t ∧
    t = { s with
      sp := s.sp + 3#8
      pc := wordOfBytes (s.memRead (stackAddr (s.sp + 3#8))) (s.memRead (stackAddr (s.sp + 2#8)))
      p := t.p
      pcw := true }

/-- CLC, SEC, CLI, SEI, CLD, SED, CLV each write one flag and nothing else (R234 to R240; D23, log 22). -/
def Obligations.FlagInstructionsWriteOneFlag : Prop :=
  ∀ s : State, SetsFlag .C false s (exec .clc s) ∧ SetsFlag .C true s (exec .sec s) ∧
    SetsFlag .I false s (exec .cli s) ∧ SetsFlag .I true s (exec .sei s) ∧ SetsFlag .D false s (exec .cld s) ∧
    SetsFlag .D true s (exec .sed s) ∧ SetsFlag .V false s (exec .clv s)

/-- NOP does nothing; BRK halts the core and changes nothing else (R241, R243; D8, log 9). -/
def Obligations.NopAndBreakHandlers : Prop :=
  ∀ s : State, exec .nop s = .next s ∧ exec .brk s = .next { s with run := .haltedBrk }

/-! ### The loop (spec/40_fetch_execute_addressing.md section 1) -/

/-- A step whose bytes at PC decode to `i` is `exec i` at PC + 1 with the marker clear, then the advance over the
operand bytes (unless the handler relocated PC) and the cycle cost (unless it halted), then the marker cleared. How
BRK ends is D8 (log 9), the marker D7 and the model's (log 8, 25). -/
def Obligations.StepRunsTheDecodedInstruction : Prop :=
  ∀ (cfg : Config) (s : State) (i : Instr) (rest : List Byte), s.run = .running →
    decode [s.memRead s.pc, s.memRead (s.pc + 1#16), s.memRead (s.pc + 2#16)] = .ok (i, rest) →
    ∃ t, exec i { s with pc := s.pc + 1#16, pcw := false } = .next t ∧
      stepWith cfg s = .next (if t.run = .running then
        { t with
          pc := if t.pcw then t.pc else t.pc + BitVec.ofNat 16 (i.length - 1)
          cycles := t.cycles + cfg.cyc (s.memRead s.pc)
          pcw := false }
        else { t with pcw := false })

/-- R102: a byte without an entry ends the step in the exception; nothing but PC and the run state changes. The
resulting state is D9 (log 10). -/
def Obligations.IllegalOpcodeHaltsWithItsByteAndAddress : Prop :=
  ∀ (cfg : Config) (s : State), s.run = .running → entryOf? (s.memRead s.pc) = none →
    stepWith cfg s = .next { s with pc := s.pc + 1#16, run := .haltedFault (s.memRead s.pc) s.pc, pcw := false }

/-- R87: the bytes without an entry are the 105 listed. The table is D1 (log 1). -/
def Obligations.IllegalBytesAreTheListedOnes : Prop :=
  illegalBytes.length = 105 ∧ ∀ op : Byte, entryOf? op = none ↔ op.toNat ∈ illegalBytes

/-- R261, R33: a running step always goes on; the one exception is taken exactly where the fetched byte has no entry (with
its byte and address: D9, log 10), the break halt exactly where it is 0x00; a halted machine has no step (D22, log 21). -/
def Obligations.RunningStepsGoOnAndHaltedStepsStop : Prop :=
  ∀ (cfg : Config) (s : State),
    (s.run = .running → ∃ t, stepWith cfg s = .next t ∧
      (∀ op addr, t.run = .haltedFault op addr ↔
        entryOf? (s.memRead s.pc) = none ∧ op = s.memRead s.pc ∧ addr = s.pc) ∧
      (t.run = .haltedBrk ↔ s.memRead s.pc = 0x00#8)) ∧
    (s.run = .haltedBrk → stepWith cfg s = .fault .afterBreak) ∧
    ∀ op addr, s.run = .haltedFault op addr → stepWith cfg s = .fault (.afterIllegalOpcode op addr)

/-- R106: a step that fetches 0x00 halts; PC is one past it, and nothing else changes (D8, log 9). -/
def Obligations.BreakEndsTheStepAtOnce : Prop :=
  ∀ (cfg : Config) (s : State), s.run = .running → s.memRead s.pc = 0x00#8 →
    stepWith cfg s = .next { s with pc := s.pc + 1#16, run := .haltedBrk, pcw := false }

/-- R104: without a relocation PC goes to the next instruction in sequence; with one it keeps the handler's value; a
branch that is not taken is advanced like any other instruction. -/
def Obligations.SequentialAdvanceUnlessRelocated : Prop :=
  ∀ (cfg : Config) (s t u : State) (i : Instr) (rest : List Byte), s.run = .running → s.fetch = .ok (i, rest) →
    exec i s.afterOpcode = .next u → u.run = .running → stepWith cfg s = .next t →
    (u.pcw = false → t.pc = s.pc + BitVec.ofNat 16 i.length) ∧ (u.pcw = true → t.pc = u.pc) ∧
    (branchCondition s i.mnemonic = some false → t.pc = s.pc + 2#16) ∧ 1 ≤ i.length ∧ i.length ≤ 3

/-- R105: the handlers that relocate are exactly JMP, JSR, RTS, RTI and the branches whose condition holds; no other
handler writes PC (D7, log 8). -/
def Obligations.OnlyControlTransfersRelocate : Prop :=
  ∀ (i : Instr) (s t : State), s.pcw = false → exec i s = .next t →
    (t.pcw = true ↔ i.mnemonic ∈ [.JMP, .JSR, .RTS, .RTI] ∨ branchCondition s i.mnemonic = some true) ∧
    (t.pcw = false → t.pc = s.pc)

/-- R107: a retired instruction adds its opcode's cost, whatever its operands; BRK and an illegal byte add nothing. -/
def Obligations.CyclesGrowByTheOpcodeCost : Prop :=
  ∀ (cfg : Config) (s t : State), stepWith cfg s = .next t →
    (t.run = .running → t.cycles = s.cycles + cfg.cyc (s.memRead s.pc)) ∧
    (t.run ≠ .running → t.cycles = s.cycles)

/-! ### Whole-machine rules -/

/-- R28: a flag changes only in a step of an instruction that the table of R28 names for it; bit 5 never changes. The
mnemonics listed are general knowledge of the spec (log 22). -/
def Obligations.FlagsChangeOnlyByTheirWriters : Prop :=
  ∀ (cfg : Config) (s t : State) (f : Flag), s.flag .U = true → stepWith cfg s = .next t → t.flag f ≠ s.flag f →
    ∃ i rest, s.fetch = .ok (i, rest) ∧ i.mnemonic ∈ flagWriters f

/-- R21, R22: A, X, Y and SP change only in a step of an instruction those rules name for them. The mnemonics listed
are general knowledge of the spec (log 22). -/
def Obligations.RegistersChangeOnlyByTheirWriters : Prop :=
  ∀ (cfg : Config) (s t : State), stepWith cfg s = .next t →
    (t.a ≠ s.a → ∃ i rest, s.fetch = .ok (i, rest) ∧
      (i.mnemonic ∈ [.LDA, .TXA, .TYA, .PLA, .AND, .ORA, .EOR, .ADC, .SBC] ∨ i.mnemonic ∈ shifts ∧ i.mode = .ACC)) ∧
    (t.x ≠ s.x → ∃ i rest, s.fetch = .ok (i, rest) ∧ i.mnemonic ∈ [.LDX, .TAX, .TSX, .INX, .DEX]) ∧
    (t.y ≠ s.y → ∃ i rest, s.fetch = .ok (i, rest) ∧ i.mnemonic ∈ [.LDY, .TAY, .INY, .DEY]) ∧
    (t.sp ≠ s.sp → ∃ i rest, s.fetch = .ok (i, rest) ∧
      i.mnemonic ∈ [.TXS, .PHA, .PHP, .PLA, .PLP, .JSR, .RTS, .RTI])

/-- R54, R60: memory changes only in a step of a storing instruction; of the shift family only outside ACC mode. The
mnemonics listed are general knowledge of the spec (log 22). -/
def Obligations.MemoryChangesOnlyByStoringInstructions : Prop :=
  ∀ (cfg : Config) (s t : State) (b : Word), stepWith cfg s = .next t → t.memRead b ≠ s.memRead b →
    ∃ i rest, s.fetch = .ok (i, rest) ∧
      (i.mnemonic ∈ [.STA, .STX, .STY, .INC, .DEC, .PHA, .PHP, .JSR] ∨ i.mnemonic ∈ shifts ∧ i.mode ≠ .ACC)

/-- R28: I and D are read by PHP alone and B by nothing: a step from a state that differs in one of them leaves a
state that differs at most in that flag. That D plays no part in ADC and SBC is D10 (log 11). -/
def Obligations.InterruptDecimalBreakFlagsHaveNoEffect : Prop :=
  ∀ (cfg : Config) (s t : State) (f : Flag) (b : Bool), f ∈ [.I, .D, .B] →
    (∀ i rest, s.fetch = .ok (i, rest) → f = .B ∨ i.mnemonic ≠ .PHP) → stepWith cfg s = .next t →
    ∃ c, stepWith cfg (s.setFlag f b) = .next (t.setFlag f c)

/-- Every step from a state of the invariant leads to one: the memory keeps its canonical form, the cells no address
reaches stay 0x00, bit 5 of P stays 1 (R27), the marker is clear (R35). The form of the memory and the marker between
steps are the model's own (log 24, 25). -/
def Obligations.StepsKeepTheInvariant : Prop :=
  ∀ (cfg : Config) (s t : State), s.Inv → stepWith cfg s = .next t → t.Inv

/-- The invariant holds after reset of any bus of canonical form, for parameters with bit 5 of P_RESET set, and at
`State.reset`. -/
def Obligations.ResetEstablishesTheInvariant : Prop :=
  State.reset.Inv ∧ ∀ (cfg : Config) (s : State), cfg.wf = true → s.mem.wf = true → s.mem.hiddenClear = true →
    (s.resetWith cfg).Inv

/-- The step is the rules' own pseudocode, in which the handlers read their operand bytes at PC (R100, R103, R126 and
the rule of every instruction): from every running state the two agree. That the operand stands in the decoded
instruction is the model's own reading (log 28). -/
def Obligations.StepAgreesWithTheRulesPseudocode : Prop :=
  ∀ (cfg : Config) (s : State), s.run = .running → stepWith cfg s = .next { bookStep cfg s with pcw := false }

/-! ### Reset, load, run (spec/70_reset_and_hazards.md; spec/40_fetch_execute_addressing.md R125) -/

/-- R290, R292: reset of any state gives the reset values and keeps memory (the vector's address is D3, log 3). -/
def Obligations.ResetRestartsAndKeepsMemory : Prop :=
  ∀ (cfg : Config) (s : State), s.resetWith cfg =
    { a := 0x00#8, x := 0x00#8, y := 0x00#8, sp := cfg.spReset,
      pc := wordOfBytes (s.memRead 0xFFFD#16) (s.memRead 0xFFFC#16), p := cfg.pReset, mem := s.mem, run := .running,
      cycles := 0, pcw := false }

/-- R293: the state after reset of a fresh bus, with the spec's default parameters, which are this model's choice for
`State.reset` (log 4, 5); its first step is BRK. -/
def Obligations.FreshMachineBreaksAtOnce : Prop :=
  State.reset = resetBus Config.default freshBus ∧ State.reset.pc = 0x0000#16 ∧
    step State.reset = .next { State.reset with pc := 0x0001#16, run := .haltedBrk }

/-- R296: a load puts each byte at its address (the last one, where two addresses share a cell), touches no other cell,
and is refused when it does not fit (D18, log 18). -/
def Obligations.LoadPlacesTheBytes : Prop :=
  ∀ (start : Word) (bytes : List Byte) (m : Memory), m.wf = true →
    (∀ k, (hk : k < bytes.length) → (∀ j, k < j → j < bytes.length →
        phys (start + BitVec.ofNat 16 j) ≠ phys (start + BitVec.ofNat 16 k)) →
      (loadBytes start bytes m).read (start + BitVec.ofNat 16 k) = bytes[k]) ∧
    (∀ b : Word, (∀ k, k < bytes.length → phys b ≠ phys (start + BitVec.ofNat 16 k)) →
      (loadBytes start bytes m).read b = m.read b) ∧
    (start.toNat + bytes.length ≤ 65536 → load? start bytes m = some (loadBytes start bytes m)) ∧
    (65536 < start.toNat + bytes.length → load? start bytes m = none)

/-- R295: a start-up runs from the program's origin, in a state of the invariant; there is one exactly for parameters with
bit 5 of P_RESET set (R290) and a load that fits (R296; D18, log 18). The vector's address is D3 (log 3), the origin an
argument (D19, log 19). -/
def Obligations.BootStartsAtTheOrigin : Prop :=
  ∀ (cfg : Config) (origin : Word) (bytes : List Byte),
    ((boot? cfg origin bytes).isSome = true ↔
      cfg.pReset.getLsbD 5 = true ∧ origin.toNat + bytes.length ≤ 65536) ∧
    ∀ s, boot? cfg origin bytes = some s → s.pc = origin ∧ s.run = .running ∧ s.Inv

/-- R125, R108, R109: a run invocation exists for every budget but `some 0` (D17, log 31); how it ends, and how often the
observer was called. The bound on the steps is the model's own (log 26); the ends are D22 and D27 (log 21, 31). -/
def Obligations.RunCountsObserverCalls : Prop :=
  ∀ (cfg : Config) (budget : Option Nat) (obs : Observer) (bound : Nat) (s : State),
    (runInvocation cfg budget obs bound s = none ↔ budget = some 0) ∧
    ∀ o, runInvocation cfg budget obs bound s = some o →
      (o.why = .halted → o.observed = o.retired ∧ o.state.run ≠ .running) ∧
      (o.why = .budget → o.retired = o.observed + 1 ∧ o.state.run = .running ∧
        ∃ b, budget = some b ∧ b ≤ o.state.cycles) ∧
      (s.run ≠ .running → o = ⟨s, 0, 0, .halted⟩)

/-- R109: "With the default observer (identity) the loop is just repeated Step", without a budget. The bound is the
model's own (log 26); the total restarts at 0 by D17 (log 17). -/
def Obligations.RunIsRepeatedStep : Prop :=
  ∀ (cfg : Config) (bound : Nat) (s : State), s.run = .running →
    ∃ o, runInvocation cfg none identityObserver bound s = some o ∧
      o.state = stepsOf cfg bound { s with cycles := 0 }

/-- Every run invocation keeps the invariant, whatever an admitted observer does between steps (R109, R27). What an
observer may do is D20 (log 20). -/
def Obligations.RunsKeepTheInvariant : Prop :=
  ∀ (cfg : Config) (budget : Option Nat) (obs : Observer) (bound : Nat) (s : State) (o : RunOut),
    Observer.admitted obs → s.Inv → runInvocation cfg budget obs bound s = some o → o.state.Inv

/-! ### Encoding (spec/30_encoding.md) -/

/-- Every instruction, with every operand, is decoded from its encoding, whatever bytes follow. The opcode bytes are
D1 (log 1). -/
def Obligations.DecodeOfEncode : Prop :=
  ∀ (i : Instr) (rest : List Byte), i.wf = true ∧ decode (encode i ++ rest) = .ok (i, rest)

/-- Each byte sequence has one reading: what decodes to an instruction starts with its encoding. The opcode bytes are
D1 (log 1). -/
def Obligations.EncodeOfDecode : Prop :=
  ∀ (bytes rest : List Byte) (i : Instr), decode bytes = .ok (i, rest) → bytes = encode i ++ rest

/-- A few words of R85, bit by bit. The opcode bytes are D1 (log 1). -/
def Obligations.SampleWordsDecode : Prop :=
  decode [0b10101001#8, 0b00000101#8] = .ok (.ldaImm 0x05#8, []) ∧
  decode [0b00000000#8] = .ok (.brk, []) ∧
  decode [0b00100000#8, 0b00010000#8, 0b10000000#8] = .ok (.jsr 0x8010#16, []) ∧
  decode [0b01101100#8, 0b11111111#8, 0b00110000#8] = .ok (.jmpInd 0x30FF#16, []) ∧
  decode [0b11010000#8, 0b11111101#8] = .ok (.bne 0xFD#8, []) ∧
  decode [0b00000010#8] = .error (.illegalOpcode 0x02#8)

/-- R85: the table's counts; no opcode byte twice; lengths by mode (R81); its pairs of mnemonic and mode are the
legal ones. The table is D1 (log 1). -/
def Obligations.OpcodeTableIsSound : Prop :=
  legal.length = 151 ∧ (legal.map OpcodeEntry.opcode).Nodup ∧ (∀ e ∈ legal, e.length = e.mode.length) ∧
  (∀ (m : Mnemonic) (md : Mode), (∃ e ∈ legal, e.mnemonic = m ∧ e.mode = md) ↔ md ∈ m.modes) ∧
  ([Mode.IMP, .ACC, .IMM, .ZP, .ZPX, .ZPY, .ABS, .ABX, .ABY, .IND, .IZX, .IZY, .REL].map fun md =>
    (legal.filter fun e => decide (e.mode = md)).length) = [25, 4, 11, 21, 16, 2, 23, 15, 9, 1, 8, 8, 8]
end

