-- ==== Sys2Proof/Laws/Memory.lean ====
section
/-! SUPPORT. The laws of memory as data: what a cell holds after a write, and that every memory operation keeps the
canonical form and leaves the cells that no address reaches alone (spec/10_state.md R32, spec/20_memory.md R51, R52). -/

namespace Sys2Proof.Machine

theorem Memory.readCell_writeCell_ne {k j : Nat} (h : j ≠ k) (v : Byte) (m : Memory) :
    (m.writeCell k v).readCell j = m.readCell j := by
  induction m with
  | nil =>
    simp only [Memory.writeCell]
    split
    · rfl
    · simp [Memory.readCell, Ne.symm h]
  | cons c rest ih =>
    obtain ⟨i, b⟩ := c
    simp only [Memory.writeCell]
    split
    · split
      · rfl
      · simp [Memory.readCell, Ne.symm h]
    · split
      · next hk =>
        subst hk
        split <;> simp [Memory.readCell, Ne.symm h]
      · simp only [Memory.readCell, ih]

theorem Memory.readCell_of_wfFrom {lo k : Nat} (h : k < lo) {m : Memory} (hm : m.wfFrom lo = true) :
    m.readCell k = unlistedByte := by
  induction m generalizing lo with
  | nil => rfl
  | cons c rest ih =>
    obtain ⟨i, b⟩ := c
    simp only [Memory.wfFrom, Bool.and_eq_true, decide_eq_true_eq] at hm
    obtain ⟨⟨⟨h1, _⟩, _⟩, h4⟩ := hm
    have hne : i ≠ k := by omega
    simp only [Memory.readCell, if_neg hne]
    exact ih (by omega) h4

theorem Memory.readCell_writeCell_same_from {lo k : Nat} (v : Byte) {m : Memory} (hm : m.wfFrom lo = true) :
    (m.writeCell k v).readCell k = v := by
  induction m generalizing lo with
  | nil =>
    simp only [Memory.writeCell]
    split
    · next hv => simp [Memory.readCell, hv]
    · simp [Memory.readCell]
  | cons c rest ih =>
    obtain ⟨i, b⟩ := c
    have hm' := hm
    simp only [Memory.wfFrom, Bool.and_eq_true, decide_eq_true_eq] at hm
    obtain ⟨_, h4⟩ := hm
    simp only [Memory.writeCell]
    split
    · next hki =>
      split
      · next hv =>
        have hne : i ≠ k := by omega
        simp only [Memory.readCell, if_neg hne, hv]
        exact Memory.readCell_of_wfFrom (by omega) h4
      · simp [Memory.readCell]
    · split
      · next hk =>
        subst hk
        split
        · next hv => rw [hv]; exact Memory.readCell_of_wfFrom (Nat.lt_succ_self _) h4
        · simp [Memory.readCell]
      · next hne =>
        simp only [Memory.readCell, if_neg (Ne.symm hne)]
        exact ih h4

theorem Memory.readCell_writeCell_same {m : Memory} (hm : m.wf = true) (k : Nat) (v : Byte) :
    (m.writeCell k v).readCell k = v :=
  Memory.readCell_writeCell_same_from v hm

theorem Memory.writeCell_wfFrom {lo k : Nat} (hlo : lo ≤ k) (hk : k < 65536) (v : Byte) {m : Memory}
    (hm : m.wfFrom lo = true) : (m.writeCell k v).wfFrom lo = true := by
  induction m generalizing lo with
  | nil =>
    simp only [Memory.writeCell]
    split
    · rfl
    · next hv => simp [Memory.wfFrom, hlo, hk, hv]
  | cons c rest ih =>
    obtain ⟨i, b⟩ := c
    have hm' := hm
    simp only [Memory.wfFrom, Bool.and_eq_true, decide_eq_true_eq] at hm
    obtain ⟨⟨⟨h1, h2⟩, h3⟩, h4⟩ := hm
    simp only [Memory.writeCell]
    split
    · next hki =>
      split
      · exact hm'
      · next hv =>
        have : k + 1 ≤ i := hki
        simp [Memory.wfFrom, hlo, hk, hv, this, h2, h3, h4]
    · next hki =>
      split
      · next hke =>
        subst hke
        split
        · revert h4
          cases rest with
          | nil => intro _; rfl
          | cons d rest' =>
            obtain ⟨j, e⟩ := d
            simp only [Memory.wfFrom, Bool.and_eq_true, decide_eq_true_eq]
            rintro ⟨⟨⟨g1, g2⟩, g3⟩, g4⟩
            exact ⟨⟨⟨by omega, g2⟩, g3⟩, g4⟩
        · next hv => simp [Memory.wfFrom, hlo, hk, hv, h4]
      · next hne =>
        have : i + 1 ≤ k := by omega
        simp [Memory.wfFrom, h1, h2, h3, ih this h4]

theorem Memory.writeCell_wf {k : Nat} (hk : k < 65536) (v : Byte) {m : Memory} (hm : m.wf = true) :
    (m.writeCell k v).wf = true :=
  Memory.writeCell_wfFrom (Nat.zero_le k) hk v hm

theorem Memory.writeCell_hiddenClear {k : Nat} (hk : k < 0x0800 ∨ 0x1FFF < k) (v : Byte) {m : Memory}
    (hm : m.hiddenClear = true) : (m.writeCell k v).hiddenClear = true := by
  induction m with
  | nil =>
    simp only [Memory.writeCell]
    split
    · rfl
    · simp [Memory.hiddenClear, hk]
  | cons c rest ih =>
    obtain ⟨i, b⟩ := c
    simp only [Memory.hiddenClear, List.all_cons, Bool.and_eq_true] at hm ih
    obtain ⟨h1, h2⟩ := hm
    have hk' : (decide (k < 0x0800) || decide (0x1FFF < k)) = true := by simpa using hk
    simp only [Memory.writeCell]
    split
    · split <;> simp only [Memory.hiddenClear, List.all_cons, h1, h2, hk', Bool.and_self]
    · split
      · split <;> simp only [Memory.hiddenClear, List.all_cons, h2, hk', Bool.and_self]
      · simp only [Memory.hiddenClear, List.all_cons, h1, ih h2, Bool.and_self]

/-! ### The decode -/

theorem phys_of_le {a : Word} (h : a.toNat ≤ 0x1FFF) : phys a = a.toNat % 2048 := by
  have h' : a ≤ 0x1FFF#16 := by simpa [BitVec.le_def] using h
  simp only [phys, if_pos h', BitVec.toNat_and]
  exact Nat.and_two_pow_sub_one_eq_mod a.toNat 11

theorem phys_of_gt {a : Word} (h : 0x1FFF < a.toNat) : phys a = a.toNat := by
  have h' : ¬ a ≤ 0x1FFF#16 := by simpa [BitVec.le_def] using h
  simp only [phys, if_neg h']

theorem phys_lt (a : Word) : phys a < 65536 := by
  by_cases h : a.toNat ≤ 0x1FFF
  · rw [phys_of_le h]; omega
  · rw [phys_of_gt (by omega)]; exact a.isLt

theorem phys_not_hidden (a : Word) : phys a < 0x0800 ∨ 0x1FFF < phys a := by
  by_cases h : a.toNat ≤ 0x1FFF
  · rw [phys_of_le h]; omega
  · rw [phys_of_gt (by omega)]; omega

/-! ### The bus operations keep the form -/

theorem Memory.write_wf {m : Memory} (hm : m.wf = true) (a : Word) (v : Byte) : (m.write a v).wf = true :=
  Memory.writeCell_wf (phys_lt a) v hm

theorem Memory.write_hiddenClear {m : Memory} (hm : m.hiddenClear = true) (a : Word) (v : Byte) :
    (m.write a v).hiddenClear = true :=
  Memory.writeCell_hiddenClear (phys_not_hidden a) v hm

theorem Memory.write16_wf {m : Memory} (hm : m.wf = true) (a w : Word) : (m.write16 a w).wf = true :=
  Memory.write_wf (Memory.write_wf hm _ _) _ _

theorem Memory.write16_hiddenClear {m : Memory} (hm : m.hiddenClear = true) (a w : Word) :
    (m.write16 a w).hiddenClear = true :=
  Memory.write_hiddenClear (Memory.write_hiddenClear hm _ _) _ _

theorem loadBytes_wf {m : Memory} (hm : m.wf = true) (start : Word) (bytes : List Byte) :
    (loadBytes start bytes m).wf = true := by
  induction bytes generalizing start m with
  | nil => exact hm
  | cons b rest ih => exact ih (Memory.write_wf hm _ _) _

theorem loadBytes_hiddenClear {m : Memory} (hm : m.hiddenClear = true) (start : Word) (bytes : List Byte) :
    (loadBytes start bytes m).hiddenClear = true := by
  induction bytes generalizing start m with
  | nil => exact hm
  | cons b rest ih => exact ih (Memory.write_hiddenClear hm _ _) _

/-- A write through the bus is seen by a read of the same cell and by no other read. -/
theorem Memory.read_write {m : Memory} (hm : m.wf = true) (a b : Word) (v : Byte) :
    (m.write a v).read b = if phys b = phys a then v else m.read b := by
  split
  · next h => simp only [Memory.read, Memory.write, h]; exact Memory.readCell_writeCell_same hm _ _
  · next h => exact Memory.readCell_writeCell_ne h _ _

theorem Memory.read_write_ne {m : Memory} {a b : Word} (h : phys b ≠ phys a) (v : Byte) :
    (m.write a v).read b = m.read b :=
  Memory.readCell_writeCell_ne h _ _

theorem Memory.read_write_same {m : Memory} (hm : m.wf = true) (a : Word) (v : Byte) :
    (m.write a v).read a = v :=
  Memory.readCell_writeCell_same hm _ _

end Sys2Proof.Machine
end

