-- ==== Sys2Proof/Laws/Words.lean ====
section
/-! SUPPORT. Bytes and words: the halves of a word, zero extension, and the addresses of the stack page
(spec/00_scope.md R7, spec/10_state.md R31). -/

namespace Sys2Proof

theorem toNat_wordOfBytes (hi lo : Byte) : (wordOfBytes hi lo).toNat = hi.toNat * 256 + lo.toNat := by
  have h : (hi ++ lo).toNat = hi.toNat <<< 8 ||| lo.toNat := BitVec.toNat_append hi lo
  rw [wordOfBytes, h, ← Nat.shiftLeft_add_eq_or_of_lt lo.isLt, Nat.shiftLeft_eq]

theorem toNat_loByte (w : Word) : (loByte w).toNat = w.toNat % 256 := by
  simp [loByte, BitVec.extractLsb'_toNat]

theorem toNat_hiByte (w : Word) : (hiByte w).toNat = w.toNat / 256 := by
  have hw := w.isLt
  simp only [hiByte, BitVec.extractLsb'_toNat, Nat.shiftRight_eq_div_pow]
  omega

@[simp] theorem loByte_wordOfBytes (hi lo : Byte) : loByte (wordOfBytes hi lo) = lo := by
  apply BitVec.eq_of_toNat_eq
  have := lo.isLt
  rw [toNat_loByte, toNat_wordOfBytes]
  omega

@[simp] theorem hiByte_wordOfBytes (hi lo : Byte) : hiByte (wordOfBytes hi lo) = hi := by
  apply BitVec.eq_of_toNat_eq
  have := lo.isLt
  rw [toNat_hiByte, toNat_wordOfBytes]
  omega

@[simp] theorem wordOfBytes_hiByte_loByte (w : Word) : wordOfBytes (hiByte w) (loByte w) = w := by
  apply BitVec.eq_of_toNat_eq
  rw [toNat_wordOfBytes, toNat_hiByte, toNat_loByte]
  omega

namespace Machine

theorem toNat_zext16 (b : Byte) : (zext16 b).toNat = b.toNat := by
  have := b.isLt
  simp only [zext16, BitVec.toNat_setWidth]
  omega

theorem toNat_stackAddr (sp : Byte) : (stackAddr sp).toNat = 256 + sp.toNat := by
  have := sp.isLt
  simp only [stackAddr, BitVec.toNat_add, toNat_zext16, BitVec.toNat_ofNat]
  omega

/-- The stack page lies in the first image of the mirrored cells (R31, R52). -/
theorem phys_stackAddr (sp : Byte) : phys (stackAddr sp) = 256 + sp.toNat := by
  have := sp.isLt
  have h := toNat_stackAddr sp
  rw [phys_of_le (by omega), h]
  omega

/-- Distinct stack pointers designate distinct cells. -/
theorem phys_stackAddr_inj {p q : Byte} : phys (stackAddr p) = phys (stackAddr q) ↔ p = q := by
  rw [phys_stackAddr, phys_stackAddr]
  constructor
  · intro h; exact BitVec.eq_of_toNat_eq (by omega)
  · rintro rfl; rfl

end Machine

end Sys2Proof
end

