-- ==== Sys2Proof/Laws/Decode.lean ====
section
/-! SUPPORT. The parts of decoding and encoding: the constructor an instruction's mnemonic and operand name, and the
operand field read back from its bytes (spec/30_encoding.md R81, R83, R90). -/

namespace Sys2Proof

/-- Each instruction is the one its mnemonic and operand stand for. -/
theorem ofSource?_source (i : Instr) : Instr.ofSource? i.source = some i := by
  cases i <;> rfl

theorem source_eq (i : Instr) : i.source = ⟨i.mnemonic, i.operand⟩ := rfl

/-- A mode reads back the operand whose bytes follow the opcode, and leaves the bytes after it. -/
theorem takeOperand_bytes (o : Operand) (rest : List Byte) :
    o.mode.takeOperand (o.bytes ++ rest) = some (o, rest) := by
  cases o with
  | mem m => cases m <;> simp [Operand.mode, Operand.bytes, Mode.takeOperand, takeD8, takeA16]
  | _ => simp [Operand.mode, Operand.bytes, Mode.takeOperand, takeD8, takeA16]

/-- The bytes of an operand field are as many as its mode's length says. -/
theorem length_bytes (o : Operand) : o.bytes.length + 1 = o.mode.length := by
  cases o with
  | mem m => cases m <;> rfl
  | _ => rfl

/-- Decoding is the lookup of the opcode byte, the operand field of the entry's mode, and the constructor. -/
theorem decode_of_entry {op : Byte} {e : OpcodeEntry} {o : Operand} {i : Instr} {bytes rest : List Byte}
    (he : entryOf? op = some e) (ho : e.mode.takeOperand bytes = some (o, rest))
    (hi : Instr.ofSource? ⟨e.mnemonic, o⟩ = some i) : decode (op :: bytes) = .ok (i, rest) := by
  simp only [decode, he, ho, hi]

/-- A byte without an entry is rejected by name. -/
theorem decode_illegal {op : Byte} (h : entryOf? op = none) (rest : List Byte) :
    decode (op :: rest) = .error (.illegalOpcode op) := by
  simp only [decode, h]

/-- With two bytes after the opcode every mode reads its operand. -/
theorem takeOperand_isSome (m : Mode) (b1 b2 : Byte) : (m.takeOperand [b1, b2]).isSome = true := by
  cases m <;> rfl

end Sys2Proof
end

