-- ==== Sys2Proof/Laws/State.lean ====
section
/-! SUPPORT. One lemma per field and register write, and the frame of every shared operation: each field it does not
write is as before. All by definition, all for simp, so that no later proof unfolds a record update. -/

namespace Sys2Proof.Machine

/-! ### Register writes -/

@[simp] theorem State.setA_a (v : Byte) (s : State) : (s.setA v).a = v := rfl
@[simp] theorem State.setA_x (v : Byte) (s : State) : (s.setA v).x = s.x := rfl
@[simp] theorem State.setA_y (v : Byte) (s : State) : (s.setA v).y = s.y := rfl
@[simp] theorem State.setA_sp (v : Byte) (s : State) : (s.setA v).sp = s.sp := rfl
@[simp] theorem State.setA_pc (v : Byte) (s : State) : (s.setA v).pc = s.pc := rfl
@[simp] theorem State.setA_p (v : Byte) (s : State) : (s.setA v).p = s.p := rfl
@[simp] theorem State.setA_mem (v : Byte) (s : State) : (s.setA v).mem = s.mem := rfl
@[simp] theorem State.setA_run (v : Byte) (s : State) : (s.setA v).run = s.run := rfl
@[simp] theorem State.setA_cycles (v : Byte) (s : State) : (s.setA v).cycles = s.cycles := rfl
@[simp] theorem State.setA_pcw (v : Byte) (s : State) : (s.setA v).pcw = s.pcw := rfl

@[simp] theorem State.setX_a (v : Byte) (s : State) : (s.setX v).a = s.a := rfl
@[simp] theorem State.setX_x (v : Byte) (s : State) : (s.setX v).x = v := rfl
@[simp] theorem State.setX_y (v : Byte) (s : State) : (s.setX v).y = s.y := rfl
@[simp] theorem State.setX_sp (v : Byte) (s : State) : (s.setX v).sp = s.sp := rfl
@[simp] theorem State.setX_pc (v : Byte) (s : State) : (s.setX v).pc = s.pc := rfl
@[simp] theorem State.setX_p (v : Byte) (s : State) : (s.setX v).p = s.p := rfl
@[simp] theorem State.setX_mem (v : Byte) (s : State) : (s.setX v).mem = s.mem := rfl
@[simp] theorem State.setX_run (v : Byte) (s : State) : (s.setX v).run = s.run := rfl
@[simp] theorem State.setX_cycles (v : Byte) (s : State) : (s.setX v).cycles = s.cycles := rfl
@[simp] theorem State.setX_pcw (v : Byte) (s : State) : (s.setX v).pcw = s.pcw := rfl

@[simp] theorem State.setY_a (v : Byte) (s : State) : (s.setY v).a = s.a := rfl
@[simp] theorem State.setY_x (v : Byte) (s : State) : (s.setY v).x = s.x := rfl
@[simp] theorem State.setY_y (v : Byte) (s : State) : (s.setY v).y = v := rfl
@[simp] theorem State.setY_sp (v : Byte) (s : State) : (s.setY v).sp = s.sp := rfl
@[simp] theorem State.setY_pc (v : Byte) (s : State) : (s.setY v).pc = s.pc := rfl
@[simp] theorem State.setY_p (v : Byte) (s : State) : (s.setY v).p = s.p := rfl
@[simp] theorem State.setY_mem (v : Byte) (s : State) : (s.setY v).mem = s.mem := rfl
@[simp] theorem State.setY_run (v : Byte) (s : State) : (s.setY v).run = s.run := rfl
@[simp] theorem State.setY_cycles (v : Byte) (s : State) : (s.setY v).cycles = s.cycles := rfl
@[simp] theorem State.setY_pcw (v : Byte) (s : State) : (s.setY v).pcw = s.pcw := rfl

@[simp] theorem State.setSP_a (v : Byte) (s : State) : (s.setSP v).a = s.a := rfl
@[simp] theorem State.setSP_x (v : Byte) (s : State) : (s.setSP v).x = s.x := rfl
@[simp] theorem State.setSP_y (v : Byte) (s : State) : (s.setSP v).y = s.y := rfl
@[simp] theorem State.setSP_sp (v : Byte) (s : State) : (s.setSP v).sp = v := rfl
@[simp] theorem State.setSP_pc (v : Byte) (s : State) : (s.setSP v).pc = s.pc := rfl
@[simp] theorem State.setSP_p (v : Byte) (s : State) : (s.setSP v).p = s.p := rfl
@[simp] theorem State.setSP_mem (v : Byte) (s : State) : (s.setSP v).mem = s.mem := rfl
@[simp] theorem State.setSP_run (v : Byte) (s : State) : (s.setSP v).run = s.run := rfl
@[simp] theorem State.setSP_cycles (v : Byte) (s : State) : (s.setSP v).cycles = s.cycles := rfl
@[simp] theorem State.setSP_pcw (v : Byte) (s : State) : (s.setSP v).pcw = s.pcw := rfl

@[simp] theorem State.setPC_a (v : Word) (s : State) : (s.setPC v).a = s.a := rfl
@[simp] theorem State.setPC_x (v : Word) (s : State) : (s.setPC v).x = s.x := rfl
@[simp] theorem State.setPC_y (v : Word) (s : State) : (s.setPC v).y = s.y := rfl
@[simp] theorem State.setPC_sp (v : Word) (s : State) : (s.setPC v).sp = s.sp := rfl
@[simp] theorem State.setPC_pc (v : Word) (s : State) : (s.setPC v).pc = v := rfl
@[simp] theorem State.setPC_p (v : Word) (s : State) : (s.setPC v).p = s.p := rfl
@[simp] theorem State.setPC_mem (v : Word) (s : State) : (s.setPC v).mem = s.mem := rfl
@[simp] theorem State.setPC_run (v : Word) (s : State) : (s.setPC v).run = s.run := rfl
@[simp] theorem State.setPC_cycles (v : Word) (s : State) : (s.setPC v).cycles = s.cycles := rfl
@[simp] theorem State.setPC_pcw (v : Word) (s : State) : (s.setPC v).pcw = s.pcw := rfl

@[simp] theorem State.setP_a (v : Byte) (s : State) : (s.setP v).a = s.a := rfl
@[simp] theorem State.setP_x (v : Byte) (s : State) : (s.setP v).x = s.x := rfl
@[simp] theorem State.setP_y (v : Byte) (s : State) : (s.setP v).y = s.y := rfl
@[simp] theorem State.setP_sp (v : Byte) (s : State) : (s.setP v).sp = s.sp := rfl
@[simp] theorem State.setP_pc (v : Byte) (s : State) : (s.setP v).pc = s.pc := rfl
@[simp] theorem State.setP_p (v : Byte) (s : State) : (s.setP v).p = v := rfl
@[simp] theorem State.setP_mem (v : Byte) (s : State) : (s.setP v).mem = s.mem := rfl
@[simp] theorem State.setP_run (v : Byte) (s : State) : (s.setP v).run = s.run := rfl
@[simp] theorem State.setP_cycles (v : Byte) (s : State) : (s.setP v).cycles = s.cycles := rfl
@[simp] theorem State.setP_pcw (v : Byte) (s : State) : (s.setP v).pcw = s.pcw := rfl

@[simp] theorem State.setMem_a (v : Memory) (s : State) : (s.setMem v).a = s.a := rfl
@[simp] theorem State.setMem_x (v : Memory) (s : State) : (s.setMem v).x = s.x := rfl
@[simp] theorem State.setMem_y (v : Memory) (s : State) : (s.setMem v).y = s.y := rfl
@[simp] theorem State.setMem_sp (v : Memory) (s : State) : (s.setMem v).sp = s.sp := rfl
@[simp] theorem State.setMem_pc (v : Memory) (s : State) : (s.setMem v).pc = s.pc := rfl
@[simp] theorem State.setMem_p (v : Memory) (s : State) : (s.setMem v).p = s.p := rfl
@[simp] theorem State.setMem_mem (v : Memory) (s : State) : (s.setMem v).mem = v := rfl
@[simp] theorem State.setMem_run (v : Memory) (s : State) : (s.setMem v).run = s.run := rfl
@[simp] theorem State.setMem_cycles (v : Memory) (s : State) : (s.setMem v).cycles = s.cycles := rfl
@[simp] theorem State.setMem_pcw (v : Memory) (s : State) : (s.setMem v).pcw = s.pcw := rfl

@[simp] theorem State.setRun_a (v : RunState) (s : State) : (s.setRun v).a = s.a := rfl
@[simp] theorem State.setRun_x (v : RunState) (s : State) : (s.setRun v).x = s.x := rfl
@[simp] theorem State.setRun_y (v : RunState) (s : State) : (s.setRun v).y = s.y := rfl
@[simp] theorem State.setRun_sp (v : RunState) (s : State) : (s.setRun v).sp = s.sp := rfl
@[simp] theorem State.setRun_pc (v : RunState) (s : State) : (s.setRun v).pc = s.pc := rfl
@[simp] theorem State.setRun_p (v : RunState) (s : State) : (s.setRun v).p = s.p := rfl
@[simp] theorem State.setRun_mem (v : RunState) (s : State) : (s.setRun v).mem = s.mem := rfl
@[simp] theorem State.setRun_run (v : RunState) (s : State) : (s.setRun v).run = v := rfl
@[simp] theorem State.setRun_cycles (v : RunState) (s : State) : (s.setRun v).cycles = s.cycles := rfl
@[simp] theorem State.setRun_pcw (v : RunState) (s : State) : (s.setRun v).pcw = s.pcw := rfl

@[simp] theorem State.setCycles_a (v : Nat) (s : State) : (s.setCycles v).a = s.a := rfl
@[simp] theorem State.setCycles_x (v : Nat) (s : State) : (s.setCycles v).x = s.x := rfl
@[simp] theorem State.setCycles_y (v : Nat) (s : State) : (s.setCycles v).y = s.y := rfl
@[simp] theorem State.setCycles_sp (v : Nat) (s : State) : (s.setCycles v).sp = s.sp := rfl
@[simp] theorem State.setCycles_pc (v : Nat) (s : State) : (s.setCycles v).pc = s.pc := rfl
@[simp] theorem State.setCycles_p (v : Nat) (s : State) : (s.setCycles v).p = s.p := rfl
@[simp] theorem State.setCycles_mem (v : Nat) (s : State) : (s.setCycles v).mem = s.mem := rfl
@[simp] theorem State.setCycles_run (v : Nat) (s : State) : (s.setCycles v).run = s.run := rfl
@[simp] theorem State.setCycles_cycles (v : Nat) (s : State) : (s.setCycles v).cycles = v := rfl
@[simp] theorem State.setCycles_pcw (v : Nat) (s : State) : (s.setCycles v).pcw = s.pcw := rfl

@[simp] theorem State.setPcw_a (v : Bool) (s : State) : (s.setPcw v).a = s.a := rfl
@[simp] theorem State.setPcw_x (v : Bool) (s : State) : (s.setPcw v).x = s.x := rfl
@[simp] theorem State.setPcw_y (v : Bool) (s : State) : (s.setPcw v).y = s.y := rfl
@[simp] theorem State.setPcw_sp (v : Bool) (s : State) : (s.setPcw v).sp = s.sp := rfl
@[simp] theorem State.setPcw_pc (v : Bool) (s : State) : (s.setPcw v).pc = s.pc := rfl
@[simp] theorem State.setPcw_p (v : Bool) (s : State) : (s.setPcw v).p = s.p := rfl
@[simp] theorem State.setPcw_mem (v : Bool) (s : State) : (s.setPcw v).mem = s.mem := rfl
@[simp] theorem State.setPcw_run (v : Bool) (s : State) : (s.setPcw v).run = s.run := rfl
@[simp] theorem State.setPcw_cycles (v : Bool) (s : State) : (s.setPcw v).cycles = s.cycles := rfl
@[simp] theorem State.setPcw_pcw (v : Bool) (s : State) : (s.setPcw v).pcw = v := rfl

/-! ### Frames of the shared operations -/

@[simp] theorem State.memWrite_a (b : Word) (v : Byte) (s : State) : (s.memWrite b v).a = s.a := rfl
@[simp] theorem State.memWrite_x (b : Word) (v : Byte) (s : State) : (s.memWrite b v).x = s.x := rfl
@[simp] theorem State.memWrite_y (b : Word) (v : Byte) (s : State) : (s.memWrite b v).y = s.y := rfl
@[simp] theorem State.memWrite_sp (b : Word) (v : Byte) (s : State) : (s.memWrite b v).sp = s.sp := rfl
@[simp] theorem State.memWrite_pc (b : Word) (v : Byte) (s : State) : (s.memWrite b v).pc = s.pc := rfl
@[simp] theorem State.memWrite_p (b : Word) (v : Byte) (s : State) : (s.memWrite b v).p = s.p := rfl
@[simp] theorem State.memWrite_run (b : Word) (v : Byte) (s : State) : (s.memWrite b v).run = s.run := rfl
@[simp] theorem State.memWrite_cycles (b : Word) (v : Byte) (s : State) : (s.memWrite b v).cycles = s.cycles := rfl
@[simp] theorem State.memWrite_pcw (b : Word) (v : Byte) (s : State) : (s.memWrite b v).pcw = s.pcw := rfl

@[simp] theorem State.push8_a (v : Byte) (s : State) : (s.push8 v).a = s.a := rfl
@[simp] theorem State.push8_x (v : Byte) (s : State) : (s.push8 v).x = s.x := rfl
@[simp] theorem State.push8_y (v : Byte) (s : State) : (s.push8 v).y = s.y := rfl
@[simp] theorem State.push8_pc (v : Byte) (s : State) : (s.push8 v).pc = s.pc := rfl
@[simp] theorem State.push8_p (v : Byte) (s : State) : (s.push8 v).p = s.p := rfl
@[simp] theorem State.push8_run (v : Byte) (s : State) : (s.push8 v).run = s.run := rfl
@[simp] theorem State.push8_cycles (v : Byte) (s : State) : (s.push8 v).cycles = s.cycles := rfl
@[simp] theorem State.push8_pcw (v : Byte) (s : State) : (s.push8 v).pcw = s.pcw := rfl

@[simp] theorem State.drop8_a (s : State) : (s.drop8).a = s.a := rfl
@[simp] theorem State.drop8_x (s : State) : (s.drop8).x = s.x := rfl
@[simp] theorem State.drop8_y (s : State) : (s.drop8).y = s.y := rfl
@[simp] theorem State.drop8_pc (s : State) : (s.drop8).pc = s.pc := rfl
@[simp] theorem State.drop8_p (s : State) : (s.drop8).p = s.p := rfl
@[simp] theorem State.drop8_mem (s : State) : (s.drop8).mem = s.mem := rfl
@[simp] theorem State.drop8_run (s : State) : (s.drop8).run = s.run := rfl
@[simp] theorem State.drop8_cycles (s : State) : (s.drop8).cycles = s.cycles := rfl
@[simp] theorem State.drop8_pcw (s : State) : (s.drop8).pcw = s.pcw := rfl

@[simp] theorem State.push16_a (w : Word) (s : State) : (s.push16 w).a = s.a := rfl
@[simp] theorem State.push16_x (w : Word) (s : State) : (s.push16 w).x = s.x := rfl
@[simp] theorem State.push16_y (w : Word) (s : State) : (s.push16 w).y = s.y := rfl
@[simp] theorem State.push16_pc (w : Word) (s : State) : (s.push16 w).pc = s.pc := rfl
@[simp] theorem State.push16_p (w : Word) (s : State) : (s.push16 w).p = s.p := rfl
@[simp] theorem State.push16_run (w : Word) (s : State) : (s.push16 w).run = s.run := rfl
@[simp] theorem State.push16_cycles (w : Word) (s : State) : (s.push16 w).cycles = s.cycles := rfl
@[simp] theorem State.push16_pcw (w : Word) (s : State) : (s.push16 w).pcw = s.pcw := rfl

@[simp] theorem State.drop16_a (s : State) : (s.drop16).a = s.a := rfl
@[simp] theorem State.drop16_x (s : State) : (s.drop16).x = s.x := rfl
@[simp] theorem State.drop16_y (s : State) : (s.drop16).y = s.y := rfl
@[simp] theorem State.drop16_pc (s : State) : (s.drop16).pc = s.pc := rfl
@[simp] theorem State.drop16_p (s : State) : (s.drop16).p = s.p := rfl
@[simp] theorem State.drop16_mem (s : State) : (s.drop16).mem = s.mem := rfl
@[simp] theorem State.drop16_run (s : State) : (s.drop16).run = s.run := rfl
@[simp] theorem State.drop16_cycles (s : State) : (s.drop16).cycles = s.cycles := rfl
@[simp] theorem State.drop16_pcw (s : State) : (s.drop16).pcw = s.pcw := rfl

@[simp] theorem State.relocate_a (w : Word) (s : State) : (s.relocate w).a = s.a := rfl
@[simp] theorem State.relocate_x (w : Word) (s : State) : (s.relocate w).x = s.x := rfl
@[simp] theorem State.relocate_y (w : Word) (s : State) : (s.relocate w).y = s.y := rfl
@[simp] theorem State.relocate_sp (w : Word) (s : State) : (s.relocate w).sp = s.sp := rfl
@[simp] theorem State.relocate_p (w : Word) (s : State) : (s.relocate w).p = s.p := rfl
@[simp] theorem State.relocate_mem (w : Word) (s : State) : (s.relocate w).mem = s.mem := rfl
@[simp] theorem State.relocate_run (w : Word) (s : State) : (s.relocate w).run = s.run := rfl
@[simp] theorem State.relocate_cycles (w : Word) (s : State) : (s.relocate w).cycles = s.cycles := rfl

@[simp] theorem State.halt_a (s : State) : (s.halt).a = s.a := rfl
@[simp] theorem State.halt_x (s : State) : (s.halt).x = s.x := rfl
@[simp] theorem State.halt_y (s : State) : (s.halt).y = s.y := rfl
@[simp] theorem State.halt_sp (s : State) : (s.halt).sp = s.sp := rfl
@[simp] theorem State.halt_pc (s : State) : (s.halt).pc = s.pc := rfl
@[simp] theorem State.halt_p (s : State) : (s.halt).p = s.p := rfl
@[simp] theorem State.halt_mem (s : State) : (s.halt).mem = s.mem := rfl
@[simp] theorem State.halt_cycles (s : State) : (s.halt).cycles = s.cycles := rfl
@[simp] theorem State.halt_pcw (s : State) : (s.halt).pcw = s.pcw := rfl

@[simp] theorem State.raiseIllegalOpcode_a (op : Byte) (w : Word) (s : State) : (s.raiseIllegalOpcode op w).a = s.a := rfl
@[simp] theorem State.raiseIllegalOpcode_x (op : Byte) (w : Word) (s : State) : (s.raiseIllegalOpcode op w).x = s.x := rfl
@[simp] theorem State.raiseIllegalOpcode_y (op : Byte) (w : Word) (s : State) : (s.raiseIllegalOpcode op w).y = s.y := rfl
@[simp] theorem State.raiseIllegalOpcode_sp (op : Byte) (w : Word) (s : State) : (s.raiseIllegalOpcode op w).sp = s.sp := rfl
@[simp] theorem State.raiseIllegalOpcode_pc (op : Byte) (w : Word) (s : State) : (s.raiseIllegalOpcode op w).pc = s.pc := rfl
@[simp] theorem State.raiseIllegalOpcode_p (op : Byte) (w : Word) (s : State) : (s.raiseIllegalOpcode op w).p = s.p := rfl
@[simp] theorem State.raiseIllegalOpcode_mem (op : Byte) (w : Word) (s : State) : (s.raiseIllegalOpcode op w).mem = s.mem := rfl
@[simp] theorem State.raiseIllegalOpcode_cycles (op : Byte) (w : Word) (s : State) : (s.raiseIllegalOpcode op w).cycles = s.cycles := rfl
@[simp] theorem State.raiseIllegalOpcode_pcw (op : Byte) (w : Word) (s : State) : (s.raiseIllegalOpcode op w).pcw = s.pcw := rfl

@[simp] theorem State.setFlag_a (f : Flag) (b : Bool) (s : State) : (s.setFlag f b).a = s.a := rfl
@[simp] theorem State.setFlag_x (f : Flag) (b : Bool) (s : State) : (s.setFlag f b).x = s.x := rfl
@[simp] theorem State.setFlag_y (f : Flag) (b : Bool) (s : State) : (s.setFlag f b).y = s.y := rfl
@[simp] theorem State.setFlag_sp (f : Flag) (b : Bool) (s : State) : (s.setFlag f b).sp = s.sp := rfl
@[simp] theorem State.setFlag_pc (f : Flag) (b : Bool) (s : State) : (s.setFlag f b).pc = s.pc := rfl
@[simp] theorem State.setFlag_mem (f : Flag) (b : Bool) (s : State) : (s.setFlag f b).mem = s.mem := rfl
@[simp] theorem State.setFlag_run (f : Flag) (b : Bool) (s : State) : (s.setFlag f b).run = s.run := rfl
@[simp] theorem State.setFlag_cycles (f : Flag) (b : Bool) (s : State) : (s.setFlag f b).cycles = s.cycles := rfl
@[simp] theorem State.setFlag_pcw (f : Flag) (b : Bool) (s : State) : (s.setFlag f b).pcw = s.pcw := rfl

@[simp] theorem State.setZN_a (v : Byte) (s : State) : (s.setZN v).a = s.a := rfl
@[simp] theorem State.setZN_x (v : Byte) (s : State) : (s.setZN v).x = s.x := rfl
@[simp] theorem State.setZN_y (v : Byte) (s : State) : (s.setZN v).y = s.y := rfl
@[simp] theorem State.setZN_sp (v : Byte) (s : State) : (s.setZN v).sp = s.sp := rfl
@[simp] theorem State.setZN_pc (v : Byte) (s : State) : (s.setZN v).pc = s.pc := rfl
@[simp] theorem State.setZN_mem (v : Byte) (s : State) : (s.setZN v).mem = s.mem := rfl
@[simp] theorem State.setZN_run (v : Byte) (s : State) : (s.setZN v).run = s.run := rfl
@[simp] theorem State.setZN_cycles (v : Byte) (s : State) : (s.setZN v).cycles = s.cycles := rfl
@[simp] theorem State.setZN_pcw (v : Byte) (s : State) : (s.setZN v).pcw = s.pcw := rfl

@[simp] theorem State.compare_a (r m : Byte) (s : State) : (s.compare r m).a = s.a := rfl
@[simp] theorem State.compare_x (r m : Byte) (s : State) : (s.compare r m).x = s.x := rfl
@[simp] theorem State.compare_y (r m : Byte) (s : State) : (s.compare r m).y = s.y := rfl
@[simp] theorem State.compare_sp (r m : Byte) (s : State) : (s.compare r m).sp = s.sp := rfl
@[simp] theorem State.compare_pc (r m : Byte) (s : State) : (s.compare r m).pc = s.pc := rfl
@[simp] theorem State.compare_mem (r m : Byte) (s : State) : (s.compare r m).mem = s.mem := rfl
@[simp] theorem State.compare_run (r m : Byte) (s : State) : (s.compare r m).run = s.run := rfl
@[simp] theorem State.compare_cycles (r m : Byte) (s : State) : (s.compare r m).cycles = s.cycles := rfl
@[simp] theorem State.compare_pcw (r m : Byte) (s : State) : (s.compare r m).pcw = s.pcw := rfl

@[simp] theorem State.bitTest_a (m : Byte) (s : State) : (s.bitTest m).a = s.a := rfl
@[simp] theorem State.bitTest_x (m : Byte) (s : State) : (s.bitTest m).x = s.x := rfl
@[simp] theorem State.bitTest_y (m : Byte) (s : State) : (s.bitTest m).y = s.y := rfl
@[simp] theorem State.bitTest_sp (m : Byte) (s : State) : (s.bitTest m).sp = s.sp := rfl
@[simp] theorem State.bitTest_pc (m : Byte) (s : State) : (s.bitTest m).pc = s.pc := rfl
@[simp] theorem State.bitTest_mem (m : Byte) (s : State) : (s.bitTest m).mem = s.mem := rfl
@[simp] theorem State.bitTest_run (m : Byte) (s : State) : (s.bitTest m).run = s.run := rfl
@[simp] theorem State.bitTest_cycles (m : Byte) (s : State) : (s.bitTest m).cycles = s.cycles := rfl
@[simp] theorem State.bitTest_pcw (m : Byte) (s : State) : (s.bitTest m).pcw = s.pcw := rfl

@[simp] theorem State.storeAt_a (m : MemOperand) (v : Byte) (s : State) : (s.storeAt m v).a = s.a := rfl
@[simp] theorem State.storeAt_x (m : MemOperand) (v : Byte) (s : State) : (s.storeAt m v).x = s.x := rfl
@[simp] theorem State.storeAt_y (m : MemOperand) (v : Byte) (s : State) : (s.storeAt m v).y = s.y := rfl
@[simp] theorem State.storeAt_sp (m : MemOperand) (v : Byte) (s : State) : (s.storeAt m v).sp = s.sp := rfl
@[simp] theorem State.storeAt_pc (m : MemOperand) (v : Byte) (s : State) : (s.storeAt m v).pc = s.pc := rfl
@[simp] theorem State.storeAt_p (m : MemOperand) (v : Byte) (s : State) : (s.storeAt m v).p = s.p := rfl
@[simp] theorem State.storeAt_run (m : MemOperand) (v : Byte) (s : State) : (s.storeAt m v).run = s.run := rfl
@[simp] theorem State.storeAt_cycles (m : MemOperand) (v : Byte) (s : State) : (s.storeAt m v).cycles = s.cycles := rfl
@[simp] theorem State.storeAt_pcw (m : MemOperand) (v : Byte) (s : State) : (s.storeAt m v).pcw = s.pcw := rfl

@[simp] theorem State.modifyAt_a (f : Byte → Byte) (m : MemOperand) (s : State) : (s.modifyAt f m).a = s.a := rfl
@[simp] theorem State.modifyAt_x (f : Byte → Byte) (m : MemOperand) (s : State) : (s.modifyAt f m).x = s.x := rfl
@[simp] theorem State.modifyAt_y (f : Byte → Byte) (m : MemOperand) (s : State) : (s.modifyAt f m).y = s.y := rfl
@[simp] theorem State.modifyAt_sp (f : Byte → Byte) (m : MemOperand) (s : State) : (s.modifyAt f m).sp = s.sp := rfl
@[simp] theorem State.modifyAt_pc (f : Byte → Byte) (m : MemOperand) (s : State) : (s.modifyAt f m).pc = s.pc := rfl
@[simp] theorem State.modifyAt_run (f : Byte → Byte) (m : MemOperand) (s : State) : (s.modifyAt f m).run = s.run := rfl
@[simp] theorem State.modifyAt_cycles (f : Byte → Byte) (m : MemOperand) (s : State) : (s.modifyAt f m).cycles = s.cycles := rfl
@[simp] theorem State.modifyAt_pcw (f : Byte → Byte) (m : MemOperand) (s : State) : (s.modifyAt f m).pcw = s.pcw := rfl

@[simp] theorem State.shiftA_x (f : Byte → Bool → ShiftOut) (s : State) : (s.shiftA f).x = s.x := rfl
@[simp] theorem State.shiftA_y (f : Byte → Bool → ShiftOut) (s : State) : (s.shiftA f).y = s.y := rfl
@[simp] theorem State.shiftA_sp (f : Byte → Bool → ShiftOut) (s : State) : (s.shiftA f).sp = s.sp := rfl
@[simp] theorem State.shiftA_pc (f : Byte → Bool → ShiftOut) (s : State) : (s.shiftA f).pc = s.pc := rfl
@[simp] theorem State.shiftA_mem (f : Byte → Bool → ShiftOut) (s : State) : (s.shiftA f).mem = s.mem := rfl
@[simp] theorem State.shiftA_run (f : Byte → Bool → ShiftOut) (s : State) : (s.shiftA f).run = s.run := rfl
@[simp] theorem State.shiftA_cycles (f : Byte → Bool → ShiftOut) (s : State) : (s.shiftA f).cycles = s.cycles := rfl
@[simp] theorem State.shiftA_pcw (f : Byte → Bool → ShiftOut) (s : State) : (s.shiftA f).pcw = s.pcw := rfl

@[simp] theorem State.shiftAt_a (f : Byte → Bool → ShiftOut) (m : MemOperand) (s : State) : (s.shiftAt f m).a = s.a := rfl
@[simp] theorem State.shiftAt_x (f : Byte → Bool → ShiftOut) (m : MemOperand) (s : State) : (s.shiftAt f m).x = s.x := rfl
@[simp] theorem State.shiftAt_y (f : Byte → Bool → ShiftOut) (m : MemOperand) (s : State) : (s.shiftAt f m).y = s.y := rfl
@[simp] theorem State.shiftAt_sp (f : Byte → Bool → ShiftOut) (m : MemOperand) (s : State) : (s.shiftAt f m).sp = s.sp := rfl
@[simp] theorem State.shiftAt_pc (f : Byte → Bool → ShiftOut) (m : MemOperand) (s : State) : (s.shiftAt f m).pc = s.pc := rfl
@[simp] theorem State.shiftAt_run (f : Byte → Bool → ShiftOut) (m : MemOperand) (s : State) : (s.shiftAt f m).run = s.run := rfl
@[simp] theorem State.shiftAt_cycles (f : Byte → Bool → ShiftOut) (m : MemOperand) (s : State) : (s.shiftAt f m).cycles = s.cycles := rfl
@[simp] theorem State.shiftAt_pcw (f : Byte → Bool → ShiftOut) (m : MemOperand) (s : State) : (s.shiftAt f m).pcw = s.pcw := rfl

@[simp] theorem State.loadA_x (v : Byte) (s : State) : (s.loadA v).x = s.x := rfl
@[simp] theorem State.loadA_y (v : Byte) (s : State) : (s.loadA v).y = s.y := rfl
@[simp] theorem State.loadA_sp (v : Byte) (s : State) : (s.loadA v).sp = s.sp := rfl
@[simp] theorem State.loadA_pc (v : Byte) (s : State) : (s.loadA v).pc = s.pc := rfl
@[simp] theorem State.loadA_mem (v : Byte) (s : State) : (s.loadA v).mem = s.mem := rfl
@[simp] theorem State.loadA_run (v : Byte) (s : State) : (s.loadA v).run = s.run := rfl
@[simp] theorem State.loadA_cycles (v : Byte) (s : State) : (s.loadA v).cycles = s.cycles := rfl
@[simp] theorem State.loadA_pcw (v : Byte) (s : State) : (s.loadA v).pcw = s.pcw := rfl

@[simp] theorem State.loadX_a (v : Byte) (s : State) : (s.loadX v).a = s.a := rfl
@[simp] theorem State.loadX_y (v : Byte) (s : State) : (s.loadX v).y = s.y := rfl
@[simp] theorem State.loadX_sp (v : Byte) (s : State) : (s.loadX v).sp = s.sp := rfl
@[simp] theorem State.loadX_pc (v : Byte) (s : State) : (s.loadX v).pc = s.pc := rfl
@[simp] theorem State.loadX_mem (v : Byte) (s : State) : (s.loadX v).mem = s.mem := rfl
@[simp] theorem State.loadX_run (v : Byte) (s : State) : (s.loadX v).run = s.run := rfl
@[simp] theorem State.loadX_cycles (v : Byte) (s : State) : (s.loadX v).cycles = s.cycles := rfl
@[simp] theorem State.loadX_pcw (v : Byte) (s : State) : (s.loadX v).pcw = s.pcw := rfl

@[simp] theorem State.loadY_a (v : Byte) (s : State) : (s.loadY v).a = s.a := rfl
@[simp] theorem State.loadY_x (v : Byte) (s : State) : (s.loadY v).x = s.x := rfl
@[simp] theorem State.loadY_sp (v : Byte) (s : State) : (s.loadY v).sp = s.sp := rfl
@[simp] theorem State.loadY_pc (v : Byte) (s : State) : (s.loadY v).pc = s.pc := rfl
@[simp] theorem State.loadY_mem (v : Byte) (s : State) : (s.loadY v).mem = s.mem := rfl
@[simp] theorem State.loadY_run (v : Byte) (s : State) : (s.loadY v).run = s.run := rfl
@[simp] theorem State.loadY_cycles (v : Byte) (s : State) : (s.loadY v).cycles = s.cycles := rfl
@[simp] theorem State.loadY_pcw (v : Byte) (s : State) : (s.loadY v).pcw = s.pcw := rfl

@[simp] theorem State.addA_x (m : Byte) (s : State) : (s.addA m).x = s.x := rfl
@[simp] theorem State.addA_y (m : Byte) (s : State) : (s.addA m).y = s.y := rfl
@[simp] theorem State.addA_sp (m : Byte) (s : State) : (s.addA m).sp = s.sp := rfl
@[simp] theorem State.addA_pc (m : Byte) (s : State) : (s.addA m).pc = s.pc := rfl
@[simp] theorem State.addA_mem (m : Byte) (s : State) : (s.addA m).mem = s.mem := rfl
@[simp] theorem State.addA_run (m : Byte) (s : State) : (s.addA m).run = s.run := rfl
@[simp] theorem State.addA_cycles (m : Byte) (s : State) : (s.addA m).cycles = s.cycles := rfl
@[simp] theorem State.addA_pcw (m : Byte) (s : State) : (s.addA m).pcw = s.pcw := rfl

@[simp] theorem State.returnFromInterrupt_a (s : State) : (s.returnFromInterrupt).a = s.a := 
    by simp only [State.returnFromInterrupt, State.relocate_a, State.setP_a, State.drop16_a, State.drop8_a]
@[simp] theorem State.returnFromInterrupt_x (s : State) : (s.returnFromInterrupt).x = s.x := 
    by simp only [State.returnFromInterrupt, State.relocate_x, State.setP_x, State.drop16_x, State.drop8_x]
@[simp] theorem State.returnFromInterrupt_y (s : State) : (s.returnFromInterrupt).y = s.y := 
    by simp only [State.returnFromInterrupt, State.relocate_y, State.setP_y, State.drop16_y, State.drop8_y]
@[simp] theorem State.returnFromInterrupt_mem (s : State) : (s.returnFromInterrupt).mem = s.mem := 
    by simp only [State.returnFromInterrupt, State.relocate_mem, State.setP_mem, State.drop16_mem, State.drop8_mem]
@[simp] theorem State.returnFromInterrupt_run (s : State) : (s.returnFromInterrupt).run = s.run := 
    by simp only [State.returnFromInterrupt, State.relocate_run, State.setP_run, State.drop16_run, State.drop8_run]
@[simp] theorem State.returnFromInterrupt_cycles (s : State) : (s.returnFromInterrupt).cycles = s.cycles := 
    by simp only [State.returnFromInterrupt, State.relocate_cycles, State.setP_cycles, State.drop16_cycles, State.drop8_cycles]

@[simp] theorem State.afterOpcode_a (s : State) : (s.afterOpcode).a = s.a := rfl
@[simp] theorem State.afterOpcode_x (s : State) : (s.afterOpcode).x = s.x := rfl
@[simp] theorem State.afterOpcode_y (s : State) : (s.afterOpcode).y = s.y := rfl
@[simp] theorem State.afterOpcode_sp (s : State) : (s.afterOpcode).sp = s.sp := rfl
@[simp] theorem State.afterOpcode_p (s : State) : (s.afterOpcode).p = s.p := rfl
@[simp] theorem State.afterOpcode_mem (s : State) : (s.afterOpcode).mem = s.mem := rfl
@[simp] theorem State.afterOpcode_run (s : State) : (s.afterOpcode).run = s.run := rfl
@[simp] theorem State.afterOpcode_cycles (s : State) : (s.afterOpcode).cycles = s.cycles := rfl

@[simp] theorem State.addCycles_a (cfg : Config) (op : Byte) (s : State) : (s.addCycles cfg op).a = s.a := rfl
@[simp] theorem State.addCycles_x (cfg : Config) (op : Byte) (s : State) : (s.addCycles cfg op).x = s.x := rfl
@[simp] theorem State.addCycles_y (cfg : Config) (op : Byte) (s : State) : (s.addCycles cfg op).y = s.y := rfl
@[simp] theorem State.addCycles_sp (cfg : Config) (op : Byte) (s : State) : (s.addCycles cfg op).sp = s.sp := rfl
@[simp] theorem State.addCycles_pc (cfg : Config) (op : Byte) (s : State) : (s.addCycles cfg op).pc = s.pc := rfl
@[simp] theorem State.addCycles_p (cfg : Config) (op : Byte) (s : State) : (s.addCycles cfg op).p = s.p := rfl
@[simp] theorem State.addCycles_mem (cfg : Config) (op : Byte) (s : State) : (s.addCycles cfg op).mem = s.mem := rfl
@[simp] theorem State.addCycles_run (cfg : Config) (op : Byte) (s : State) : (s.addCycles cfg op).run = s.run := rfl
@[simp] theorem State.addCycles_pcw (cfg : Config) (op : Byte) (s : State) : (s.addCycles cfg op).pcw = s.pcw := rfl

@[simp] theorem State.observed_run (obs : Observer) (calls : Nat) (s : State) : (s.observed obs calls).run = s.run := rfl
@[simp] theorem State.observed_cycles (obs : Observer) (calls : Nat) (s : State) : (s.observed obs calls).cycles = s.cycles := rfl
@[simp] theorem State.observed_pcw (obs : Observer) (calls : Nat) (s : State) : (s.observed obs calls).pcw = s.pcw := rfl

@[simp] theorem State.branchIf_a (c : Bool) (d : Byte) (s : State) : (s.branchIf c d).a = s.a := by
  simp only [State.branchIf]; split <;> rfl
@[simp] theorem State.branchIf_x (c : Bool) (d : Byte) (s : State) : (s.branchIf c d).x = s.x := by
  simp only [State.branchIf]; split <;> rfl
@[simp] theorem State.branchIf_y (c : Bool) (d : Byte) (s : State) : (s.branchIf c d).y = s.y := by
  simp only [State.branchIf]; split <;> rfl
@[simp] theorem State.branchIf_sp (c : Bool) (d : Byte) (s : State) : (s.branchIf c d).sp = s.sp := by
  simp only [State.branchIf]; split <;> rfl
@[simp] theorem State.branchIf_p (c : Bool) (d : Byte) (s : State) : (s.branchIf c d).p = s.p := by
  simp only [State.branchIf]; split <;> rfl
@[simp] theorem State.branchIf_mem (c : Bool) (d : Byte) (s : State) : (s.branchIf c d).mem = s.mem := by
  simp only [State.branchIf]; split <;> rfl
@[simp] theorem State.branchIf_run (c : Bool) (d : Byte) (s : State) : (s.branchIf c d).run = s.run := by
  simp only [State.branchIf]; split <;> rfl
@[simp] theorem State.branchIf_cycles (c : Bool) (d : Byte) (s : State) : (s.branchIf c d).cycles = s.cycles := by
  simp only [State.branchIf]; split <;> rfl

@[simp] theorem State.advance_a (i : Instr) (s : State) : (s.advance i).a = s.a := by
  simp only [State.advance]; split <;> rfl
@[simp] theorem State.advance_x (i : Instr) (s : State) : (s.advance i).x = s.x := by
  simp only [State.advance]; split <;> rfl
@[simp] theorem State.advance_y (i : Instr) (s : State) : (s.advance i).y = s.y := by
  simp only [State.advance]; split <;> rfl
@[simp] theorem State.advance_sp (i : Instr) (s : State) : (s.advance i).sp = s.sp := by
  simp only [State.advance]; split <;> rfl
@[simp] theorem State.advance_p (i : Instr) (s : State) : (s.advance i).p = s.p := by
  simp only [State.advance]; split <;> rfl
@[simp] theorem State.advance_mem (i : Instr) (s : State) : (s.advance i).mem = s.mem := by
  simp only [State.advance]; split <;> rfl
@[simp] theorem State.advance_run (i : Instr) (s : State) : (s.advance i).run = s.run := by
  simp only [State.advance]; split <;> rfl
@[simp] theorem State.advance_cycles (i : Instr) (s : State) : (s.advance i).cycles = s.cycles := by
  simp only [State.advance]; split <;> rfl
@[simp] theorem State.advance_pcw (i : Instr) (s : State) : (s.advance i).pcw = s.pcw := by
  simp only [State.advance]; split <;> rfl

/-! ### What the shared operations write -/

@[simp] theorem State.memWrite_mem (b : Word) (v : Byte) (s : State) : (s.memWrite b v).mem = s.mem.write b v := rfl
@[simp] theorem State.storeAt_mem (m : MemOperand) (v : Byte) (s : State) :
    (s.storeAt m v).mem = s.mem.write (m.ea s) v := rfl
@[simp] theorem State.push8_sp (v : Byte) (s : State) : (s.push8 v).sp = s.sp - 1#8 := rfl
@[simp] theorem State.push8_mem (v : Byte) (s : State) : (s.push8 v).mem = s.mem.write (stackAddr s.sp) v := rfl
@[simp] theorem State.push16_sp (w : Word) (s : State) : (s.push16 w).sp = s.sp - 1#8 - 1#8 := rfl
@[simp] theorem State.push16_mem (w : Word) (s : State) :
    (s.push16 w).mem = (s.mem.write (stackAddr s.sp) (hiByte w)).write (stackAddr (s.sp - 1#8)) (loByte w) := rfl
@[simp] theorem State.drop8_sp (s : State) : s.drop8.sp = s.sp + 1#8 := rfl
@[simp] theorem State.drop16_sp (s : State) : s.drop16.sp = s.sp + 1#8 + 1#8 := rfl
@[simp] theorem State.relocate_pc (w : Word) (s : State) : (s.relocate w).pc = w := rfl
@[simp] theorem State.relocate_pcw (w : Word) (s : State) : (s.relocate w).pcw = true := rfl
@[simp] theorem State.halt_run (s : State) : s.halt.run = .haltedBrk := rfl
@[simp] theorem State.raiseIllegalOpcode_run (op : Byte) (w : Word) (s : State) :
    (s.raiseIllegalOpcode op w).run = .haltedFault op w := rfl
@[simp] theorem State.setFlag_p (f : Flag) (b : Bool) (s : State) : (s.setFlag f b).p = setBit f b s.p := rfl
@[simp] theorem State.loadA_a (v : Byte) (s : State) : (s.loadA v).a = v := rfl
@[simp] theorem State.loadX_x (v : Byte) (s : State) : (s.loadX v).x = v := rfl
@[simp] theorem State.loadY_y (v : Byte) (s : State) : (s.loadY v).y = v := rfl
@[simp] theorem State.addA_a (m : Byte) (s : State) : (s.addA m).a = (addCore s.a m (s.flag .C)).r := rfl
@[simp] theorem State.shiftA_a (f : Byte → Bool → ShiftOut) (s : State) : (s.shiftA f).a = (f s.a (s.flag .C)).r := rfl
@[simp] theorem State.shiftAt_mem (f : Byte → Bool → ShiftOut) (m : MemOperand) (s : State) :
    (s.shiftAt f m).mem = s.mem.write (m.ea s) (f (s.dataAt m) (s.flag .C)).r := rfl
@[simp] theorem State.modifyAt_mem (f : Byte → Byte) (m : MemOperand) (s : State) :
    (s.modifyAt f m).mem = s.mem.write (m.ea s) (f (s.dataAt m)) := rfl
@[simp] theorem State.returnFromInterrupt_p (s : State) : s.returnFromInterrupt.p = returnedStatus s.top8 := by
  simp only [State.returnFromInterrupt, State.relocate_p, State.setP_p]
@[simp] theorem State.returnFromInterrupt_sp (s : State) : s.returnFromInterrupt.sp = s.sp + 1#8 + 1#8 + 1#8 := by
  simp only [State.returnFromInterrupt, State.relocate_sp, State.setP_sp, State.drop16_sp, State.drop8_sp]
@[simp] theorem State.returnFromInterrupt_pc (s : State) : s.returnFromInterrupt.pc = s.drop8.top16 := rfl
@[simp] theorem State.returnFromInterrupt_pcw (s : State) : s.returnFromInterrupt.pcw = true := rfl
@[simp] theorem State.afterOpcode_pc (s : State) : s.afterOpcode.pc = s.pc + 1#16 := rfl
@[simp] theorem State.afterOpcode_pcw (s : State) : s.afterOpcode.pcw = false := rfl
@[simp] theorem State.addCycles_cycles (cfg : Config) (op : Byte) (s : State) :
    (s.addCycles cfg op).cycles = s.cycles + cfg.cyc op := rfl
@[simp] theorem State.endStep_pcw (cfg : Config) (op : Byte) (i : Instr) (s : State) :
    (s.endStep cfg op i).pcw = false := rfl

theorem State.branchIf_true (d : Byte) (s : State) : s.branchIf true d = s.relocate (s.branchTarget d) := rfl
theorem State.branchIf_false (d : Byte) (s : State) : s.branchIf false d = s := rfl

/-! ### Reset -/

theorem State.reset_eq_resetBus : State.reset = resetBus Config.default freshBus := rfl
@[simp] theorem State.resetWith_mem (cfg : Config) (s : State) : (s.resetWith cfg).mem = s.mem := rfl
@[simp] theorem State.resetWith_run (cfg : Config) (s : State) : (s.resetWith cfg).run = .running := rfl

/-! ### Run invocations and start-ups: when there is one, and which -/

theorem runInvocation_eq_some {cfg : Config} {budget : Option Nat} {obs : Observer} {bound : Nat} {s : State}
    {o : RunOut} : runInvocation cfg budget obs bound s = some o ↔
      budgetWf budget = true ∧ o = runAdmitted cfg budget obs bound s := by
  by_cases h : budgetWf budget = true <;> simp [runInvocation, h, eq_comm (b := o)]

theorem load?_eq_some {start : Word} {bytes : List Byte} {m m' : Memory} :
    load? start bytes m = some m' ↔ loadFits start bytes = true ∧ m' = loadBytes start bytes m := by
  by_cases h : loadFits start bytes = true <;> simp [load?, h, eq_comm (b := m')]

theorem boot?_eq_some {cfg : Config} {origin : Word} {bytes : List Byte} {s : State} :
    boot? cfg origin bytes = some s ↔ cfg.wf = true ∧ loadFits origin bytes = true ∧
      s = resetBus cfg ((loadBytes origin bytes freshBus).write16 vecReset origin) := by
  by_cases h : cfg.wf = true <;> simp [boot?, h, load?_eq_some, and_assoc, eq_comm (b := s)]

end Sys2Proof.Machine
end

