-- ==== Sys2Proof/Laws/Flags.lean ====
section
/-! SUPPORT. The flags as bits of P: what a flag reads after each flag computation (spec/10_state.md R26, R28). -/

namespace Sys2Proof.Machine

theorem getLsbD_setBit (f g : Flag) (b : Bool) (p : Byte) :
    (setBit f b p).getLsbD g.bit = if g = f then b else p.getLsbD g.bit := by
  cases f <;> cases g <;> cases b <;>
    simp [setBit, Flag.bit, Flag.mask, BitVec.getLsbD_or, BitVec.getLsbD_and, BitVec.getLsbD_not, BitVec.getLsbD_ofNat]

@[simp] theorem State.flag_setFlag (f g : Flag) (b : Bool) (s : State) :
    (s.setFlag f b).flag g = if g = f then b else s.flag g :=
  getLsbD_setBit f g b s.p

/-- Two status bytes with the same eight flags are the same byte. -/
theorem status_ext {p q : Byte} (h : ∀ f : Flag, p.getLsbD f.bit = q.getLsbD f.bit) : p = q := by
  apply BitVec.eq_of_getLsbD_eq
  intro i hi
  have hC := h .C; have hZ := h .Z; have hI := h .I; have hD := h .D
  have hB := h .B; have hU := h .U; have hV := h .V; have hN := h .N
  simp only [Flag.bit] at hC hZ hI hD hB hU hV hN
  interval_cases i <;> assumption

theorem setBit_comm {f g : Flag} (h : f ≠ g) (b c : Bool) (p : Byte) :
    setBit f b (setBit g c p) = setBit g c (setBit f b p) := by
  apply status_ext
  intro k
  simp only [getLsbD_setBit]
  by_cases h1 : k = f <;> by_cases h2 : k = g <;> simp_all

/-- What `SetZN` does to the flags (R120). -/
@[simp] theorem State.flag_setZN (f : Flag) (v : Byte) (s : State) :
    (s.setZN v).flag f = if f = .N then v.msb else if f = .Z then decide (v = 0#8) else s.flag f := by
  simp only [State.setZN, State.flag_setFlag]

/-- What `Compare` does to the flags (R184). -/
@[simp] theorem State.flag_compare (f : Flag) (r m : Byte) (s : State) :
    (s.compare r m).flag f = if f = .N then (r - m).msb else if f = .Z then decide (r - m = 0#8)
      else if f = .C then decide (m.toNat ≤ r.toNat) else s.flag f := by
  simp only [State.compare, State.flag_setZN, State.flag_setFlag]

/-- What the bit test does to the flags (R169). -/
@[simp] theorem State.flag_bitTest (f : Flag) (m : Byte) (s : State) :
    (s.bitTest m).flag f = if f = .V then m.getLsbD 6 else if f = .N then m.msb
      else if f = .Z then decide (s.a &&& m = 0#8) else s.flag f := by
  simp only [State.bitTest, State.flag_setFlag]

/-- The flags depend on P alone. -/
theorem State.flag_congr {s t : State} (h : s.p = t.p) (f : Flag) : s.flag f = t.flag f := by
  simp only [State.flag, h]

@[simp] theorem State.flag_setA (v : Byte) (s : State) (f : Flag) : (s.setA v).flag f = s.flag f := rfl
@[simp] theorem State.flag_setX (v : Byte) (s : State) (f : Flag) : (s.setX v).flag f = s.flag f := rfl
@[simp] theorem State.flag_setY (v : Byte) (s : State) (f : Flag) : (s.setY v).flag f = s.flag f := rfl
@[simp] theorem State.flag_setSP (v : Byte) (s : State) (f : Flag) : (s.setSP v).flag f = s.flag f := rfl
@[simp] theorem State.flag_setPC (v : Word) (s : State) (f : Flag) : (s.setPC v).flag f = s.flag f := rfl
@[simp] theorem State.flag_setMem (m : Memory) (s : State) (f : Flag) : (s.setMem m).flag f = s.flag f := rfl
@[simp] theorem State.flag_setPcw (b : Bool) (s : State) (f : Flag) : (s.setPcw b).flag f = s.flag f := rfl
@[simp] theorem State.flag_memWrite (a : Word) (v : Byte) (s : State) (f : Flag) : (s.memWrite a v).flag f = s.flag f := rfl
@[simp] theorem State.flag_storeAt (m : MemOperand) (v : Byte) (s : State) (f : Flag) :
    (s.storeAt m v).flag f = s.flag f := rfl
@[simp] theorem State.flag_push8 (v : Byte) (s : State) (f : Flag) : (s.push8 v).flag f = s.flag f := rfl
@[simp] theorem State.flag_drop8 (s : State) (f : Flag) : s.drop8.flag f = s.flag f := rfl
@[simp] theorem State.flag_push16 (w : Word) (s : State) (f : Flag) : (s.push16 w).flag f = s.flag f := rfl
@[simp] theorem State.flag_drop16 (s : State) (f : Flag) : s.drop16.flag f = s.flag f := rfl
@[simp] theorem State.flag_halt (s : State) (f : Flag) : s.halt.flag f = s.flag f := rfl
@[simp] theorem State.flag_relocate (w : Word) (s : State) (f : Flag) : (s.relocate w).flag f = s.flag f := rfl

/-- What the loads do to the flags (R140 to R142). -/
@[simp] theorem State.flag_loadA (f : Flag) (v : Byte) (s : State) :
    (s.loadA v).flag f = if f = .N then v.msb else if f = .Z then decide (v = 0#8) else s.flag f := by
  simp only [State.loadA, State.flag_setZN, State.flag_setA]

@[simp] theorem State.flag_loadX (f : Flag) (v : Byte) (s : State) :
    (s.loadX v).flag f = if f = .N then v.msb else if f = .Z then decide (v = 0#8) else s.flag f := by
  simp only [State.loadX, State.flag_setZN, State.flag_setX]

@[simp] theorem State.flag_loadY (f : Flag) (v : Byte) (s : State) :
    (s.loadY v).flag f = if f = .N then v.msb else if f = .Z then decide (v = 0#8) else s.flag f := by
  simp only [State.loadY, State.flag_setZN, State.flag_setY]

/-- What the adder does to the flags (R181). -/
@[simp] theorem State.flag_addA (f : Flag) (m : Byte) (s : State) :
    (s.addA m).flag f =
      if f = .N then (addCore s.a m (s.flag .C)).r.msb
      else if f = .Z then decide ((addCore s.a m (s.flag .C)).r = 0#8)
      else if f = .V then (addCore s.a m (s.flag .C)).vout
      else if f = .C then (addCore s.a m (s.flag .C)).cout else s.flag f := by
  simp only [State.addA, State.flag_setZN, State.flag_setA, State.flag_setFlag]

/-- What the shift family does to the flags (R200). -/
@[simp] theorem State.flag_shiftA (f : Flag) (g : Byte → Bool → ShiftOut) (s : State) :
    (s.shiftA g).flag f =
      if f = .N then (g s.a (s.flag .C)).r.msb
      else if f = .Z then decide ((g s.a (s.flag .C)).r = 0#8)
      else if f = .C then (g s.a (s.flag .C)).cout else s.flag f := by
  simp only [State.shiftA, State.flag_setZN, State.flag_setA, State.flag_setFlag]

@[simp] theorem State.flag_shiftAt (f : Flag) (g : Byte → Bool → ShiftOut) (m : MemOperand) (s : State) :
    (s.shiftAt g m).flag f =
      if f = .N then (g (s.dataAt m) (s.flag .C)).r.msb
      else if f = .Z then decide ((g (s.dataAt m) (s.flag .C)).r = 0#8)
      else if f = .C then (g (s.dataAt m) (s.flag .C)).cout else s.flag f := by
  simp only [State.shiftAt, State.flag_setZN, State.flag_storeAt, State.flag_setFlag]

@[simp] theorem State.flag_modifyAt (f : Flag) (g : Byte → Byte) (m : MemOperand) (s : State) :
    (s.modifyAt g m).flag f =
      if f = .N then (g (s.dataAt m)).msb
      else if f = .Z then decide (g (s.dataAt m) = 0#8) else s.flag f := by
  simp only [State.modifyAt, State.flag_setZN, State.flag_storeAt]

/-- The flags of the status bytes of PHP, PLP and RTI (R231, R233, R244). -/
theorem getLsbD_pushedStatus (p : Byte) (f : Flag) :
    (pushedStatus p).getLsbD f.bit = if f = .B ∨ f = .U then true else p.getLsbD f.bit := by
  cases f <;> simp [pushedStatus, Flag.bit, BitVec.getLsbD_or, BitVec.getLsbD_ofNat]

theorem getLsbD_pulledStatus (v : Byte) (f : Flag) :
    (pulledStatus v).getLsbD f.bit = if f = .B then false else if f = .U then true else v.getLsbD f.bit := by
  cases f <;> simp [pulledStatus, Flag.bit, BitVec.getLsbD_or, BitVec.getLsbD_and, BitVec.getLsbD_ofNat]

theorem getLsbD_returnedStatus (v : Byte) (f : Flag) :
    (returnedStatus v).getLsbD f.bit = if f = .U then true else v.getLsbD f.bit := by
  cases f <;> simp [returnedStatus, Flag.bit, BitVec.getLsbD_or, BitVec.getLsbD_ofNat]

end Sys2Proof.Machine
end

