-- ==== Sys2Proof/Laws/Step.lean ====
section
/-! SUPPORT. What a step can do, said once (spec/40_fetch_execute_addressing.md R100), and the fields it leaves. -/

namespace Sys2Proof.Machine

/-- Every handler is total: "cannot itself fail" (R261). -/
theorem exec_next (i : Instr) (s : State) : ∃ t, exec i s = .next t := by
  cases i <;> exact ⟨_, rfl⟩

theorem step_eq (s : State) : step s = stepWith Config.default s := rfl

/-- The two ways a step goes on: the exception, or a handler and what the loop does after it. -/
theorem stepWith_cases {cfg : Config} {s t : State} (h : stepWith cfg s = .next t) :
    s.run = .running ∧
      ((∃ e, s.fetch = .error e ∧ t = s.afterOpcode.raiseIllegalOpcode s.opcodeByte s.pc) ∨
        (∃ i rest u, s.fetch = .ok (i, rest) ∧ exec i s.afterOpcode = .next u ∧
          t = u.endStep cfg s.opcodeByte i)) := by
  unfold stepWith at h
  split at h
  · cases h
  · cases h
  · next hr =>
    refine ⟨hr, ?_⟩
    split at h
    · next e he => cases h; exact .inl ⟨e, he, rfl⟩
    · next i rest hf =>
      obtain ⟨u, hu⟩ := exec_next i s.afterOpcode
      rw [hu] at h
      cases h
      exact .inr ⟨i, rest, u, hf, hu, rfl⟩

theorem stepWith_of_fetch {cfg : Config} {s u : State} {i : Instr} {rest : List Byte} (hr : s.run = .running)
    (hf : s.fetch = .ok (i, rest)) (hu : exec i s.afterOpcode = .next u) :
    stepWith cfg s = .next (u.endStep cfg s.opcodeByte i) := by
  simp only [stepWith, hr, hf, hu]

theorem stepWith_of_error {cfg : Config} {s : State} {e : DecodeError} (hr : s.run = .running)
    (hf : s.fetch = .error e) :
    stepWith cfg s = .next (s.afterOpcode.raiseIllegalOpcode s.opcodeByte s.pc) := by
  simp only [stepWith, hr, hf]

theorem stepWith_haltedBrk {cfg : Config} {s : State} (h : s.run = .haltedBrk) :
    stepWith cfg s = .fault .afterBreak := by
  simp only [stepWith, h]

theorem stepWith_haltedFault {cfg : Config} {s : State} {op : Byte} {addr : Word} (h : s.run = .haltedFault op addr) :
    stepWith cfg s = .fault (.afterIllegalOpcode op addr) := by
  simp only [stepWith, h]

/-- What the loop does after a handler leaves everything but PC, the cycle total and the marker. -/
theorem endStep_frame (cfg : Config) (op : Byte) (i : Instr) (s : State) :
    (s.endStep cfg op i).a = s.a ∧ (s.endStep cfg op i).x = s.x ∧ (s.endStep cfg op i).y = s.y ∧
      (s.endStep cfg op i).sp = s.sp ∧ (s.endStep cfg op i).p = s.p ∧ (s.endStep cfg op i).mem = s.mem ∧
      (s.endStep cfg op i).run = s.run := by
  simp only [State.endStep]
  split <;> simp

end Sys2Proof.Machine
end

