-- ==== Sys2Proof/Laws/Exec.lean ====
section
/-! SUPPORT. The meanings by mnemonic and operand: one equation that says what every one of the 151 arms of `exec` does,
so that a claim about all instructions has 56 cases, one for each mnemonic (spec/40_fetch_execute_addressing.md R103,
R126). -/

namespace Sys2Proof.Machine

/-- The operand byte of a reading instruction; 0x00 for the operands that have none, where it is not used. -/
def State.byteOf (s : State) (o : Operand) : Byte := (s.operandByte? o).getD 0x00#8

/-- The memory operand of a storing instruction; the others do not use it. -/
def memOf : Operand → MemOperand
  | .mem m => m
  | _ => .zp 0x00#8

/-- The address of a control transfer; the others do not use it. -/
def State.targetOf (s : State) (o : Operand) : Word := (s.resolve o).getD 0x0000#16

/-- The shift family on its operand. -/
def State.shiftOf (f : Byte → Bool → ShiftOut) (o : Operand) (s : State) : State :=
  match o with
  | .mem m => s.shiftAt f m
  | _ => s.shiftA f

/-- A branch on a condition. -/
def State.branchOf (c : Bool) (o : Operand) (s : State) : State := if c then s.relocate (s.targetOf o) else s

/-- What an instruction with mnemonic `m` and operand `o` does to the state its handler starts in. -/
def State.effect (s : State) (o : Operand) : Mnemonic → State
  | .LDA => s.loadA (s.byteOf o)
  | .LDX => s.loadX (s.byteOf o)
  | .LDY => s.loadY (s.byteOf o)
  | .STA => s.storeAt (memOf o) s.a
  | .STX => s.storeAt (memOf o) s.x
  | .STY => s.storeAt (memOf o) s.y
  | .TAX => s.loadX s.a
  | .TAY => s.loadY s.a
  | .TXA => s.loadA s.x
  | .TYA => s.loadA s.y
  | .TSX => s.loadX s.sp
  | .TXS => s.setSP s.x
  | .INC => s.modifyAt (fun v => v + 1#8) (memOf o)
  | .INX => s.loadX (s.x + 1#8)
  | .INY => s.loadY (s.y + 1#8)
  | .DEC => s.modifyAt (fun v => v - 1#8) (memOf o)
  | .DEX => s.loadX (s.x - 1#8)
  | .DEY => s.loadY (s.y - 1#8)
  | .AND => s.loadA (s.a &&& s.byteOf o)
  | .ORA => s.loadA (s.a ||| s.byteOf o)
  | .EOR => s.loadA (s.a ^^^ s.byteOf o)
  | .BIT => s.bitTest (s.byteOf o)
  | .ADC => s.addA (s.byteOf o)
  | .SBC => s.addA (~~~s.byteOf o)
  | .CMP => s.compare s.a (s.byteOf o)
  | .CPX => s.compare s.x (s.byteOf o)
  | .CPY => s.compare s.y (s.byteOf o)
  | .ASL => s.shiftOf aslFn o
  | .LSR => s.shiftOf lsrFn o
  | .ROL => s.shiftOf rolFn o
  | .ROR => s.shiftOf rorFn o
  | .BCC => s.branchOf (!s.flag .C) o
  | .BCS => s.branchOf (s.flag .C) o
  | .BEQ => s.branchOf (s.flag .Z) o
  | .BNE => s.branchOf (!s.flag .Z) o
  | .BMI => s.branchOf (s.flag .N) o
  | .BPL => s.branchOf (!s.flag .N) o
  | .BVC => s.branchOf (!s.flag .V) o
  | .BVS => s.branchOf (s.flag .V) o
  | .JSR => (s.push16 (s.pc + 1#16)).relocate (s.targetOf o)
  | .RTS => s.drop16.relocate (s.top16 + 1#16)
  | .JMP => s.relocate (s.targetOf o)
  | .PHA => s.push8 s.a
  | .PHP => s.push8 (pushedStatus s.p)
  | .PLA => s.drop8.loadA s.top8
  | .PLP => s.drop8.setP (pulledStatus s.top8)
  | .CLC => s.setFlag .C false
  | .SEC => s.setFlag .C true
  | .CLI => s.setFlag .I false
  | .SEI => s.setFlag .I true
  | .CLD => s.setFlag .D false
  | .SED => s.setFlag .D true
  | .CLV => s.setFlag .V false
  | .NOP => s
  | .BRK => s.halt
  | .RTI => s.returnFromInterrupt

/-- Every arm of `exec`, in one equation. -/
theorem exec_eq_effect (i : Instr) (s : State) : exec i s = .next (s.effect i.operand i.mnemonic) := by
  cases i <;> rfl

/-- The effect of the instruction a claim knows to run. -/
theorem eq_effect {i : Instr} {s t : State} (h : exec i s = .next t) : t = s.effect i.operand i.mnemonic := by
  rw [exec_eq_effect] at h
  cases h
  rfl

/-- A memory operand is the only operand of the storing mnemonics. -/
theorem operand_eq_mem {i : Instr} (h : i.mnemonic ∈ [Mnemonic.STA, .STX, .STY, .INC, .DEC]) :
    i.operand = .mem (memOf i.operand) := by
  cases i <;> first | rfl | (exact absurd h (by simp [Instr.mnemonic, Instr.source]))

end Sys2Proof.Machine
end

