-- ==== Sys2Proof/Tests/Slice0.lean ====
section
/-! SUPPORT. Tests of the model: what the well-formedness checks refuse, every row of the opcode table from its word as
spec/30_encoding.md R85 gives it, single steps with the start and end values of spec/95_test_vectors.md, and for each
statement with hypotheses a state and operands that meet them. -/

namespace Sys2Proof.Tests

open Sys2Proof Sys2Proof.Machine Sys2Proof.Claims

/-! ### Helpers -/

/-- Byte writes in order. -/
def poke (l : List (Word × Byte)) (m : Memory) : Memory := l.foldl (fun m c => m.write c.1 c.2) m

/-- The reset state with `bytes` at 0x8000, `cells` written and PC at 0x8000 (the default start of 95_test_vectors.md). -/
def start (bytes : List Byte) (cells : List (Word × Byte)) : State :=
  { State.reset with pc := 0x8000#16, mem := poke cells (loadBytes 0x8000#16 bytes []) }

/-- The answer is a next state with the property. -/
def after (r : Result) (p : State → Bool) : Bool :=
  match r with
  | .next t => p t
  | .fault _ | .refused _ => false

/-- The answer is the fault. -/
def stopsWith (r : Result) (f : Fault) : Bool :=
  match r with
  | .next _ | .refused _ => false
  | .fault g => decide (g = f)

/-- The words of a table decode to its instructions and leave no byte over. -/
def decodesAll (l : List (List Byte × Instr)) : Bool := l.all fun p => decide (decode p.1 = .ok (p.2, []))

/-! ### WellFormed: each check refuses an ill-formed term -/

theorem test_wf_refuses_sta_immediate : Source.wf ⟨.STA, .imm 0x10#8⟩ = false := by decide
theorem test_wf_refuses_ldx_zero_page_x : Source.wf ⟨.LDX, .mem (.zpx 0x10#8)⟩ = false := by decide
theorem test_wf_refuses_jsr_indirect : Source.wf ⟨.JSR, .ind 0x1234#16⟩ = false := by decide
theorem test_wf_refuses_reset_status_without_bit_5 : Config.wf { Config.default with pReset := 0x04#8 } = false := by decide
theorem test_wf_refuses_budget_zero : budgetWf (some 0) = false := by decide
theorem test_wf_refuses_load_past_the_end : loadFits 0xFFFF#16 [0xEA#8, 0xEA#8] = false := by decide
theorem test_wf_admits : Source.wf ⟨.STA, .mem (.izy 0x10#8)⟩ = true ∧ Config.default.wf = true ∧
    budgetWf (some 1) = true ∧ budgetWf none = true ∧ loadFits 0xFFFF#16 [0xEA#8] = true := by decide

/-! ### Decoding: every row of the opcode table, from the word R85 gives it -/

/-- Loads, stores and transfers (41_load_store_transfer.md): words of R85, with operand field 0x5A or 0x1234. -/
def words41a : List (List Byte × Instr) :=
  [ ([0xA9#8, 0x5A#8], .ldaImm 0x5A#8), ([0xA5#8, 0x5A#8], .ldaZp 0x5A#8), ([0xB5#8, 0x5A#8], .ldaZpx 0x5A#8),
    ([0xAD#8, 0x34#8, 0x12#8], .ldaAbs 0x1234#16), ([0xBD#8, 0x34#8, 0x12#8], .ldaAbx 0x1234#16),
    ([0xB9#8, 0x34#8, 0x12#8], .ldaAby 0x1234#16), ([0xA1#8, 0x5A#8], .ldaIzx 0x5A#8),
    ([0xB1#8, 0x5A#8], .ldaIzy 0x5A#8), ([0xA2#8, 0x5A#8], .ldxImm 0x5A#8), ([0xA6#8, 0x5A#8], .ldxZp 0x5A#8),
    ([0xB6#8, 0x5A#8], .ldxZpy 0x5A#8), ([0xAE#8, 0x34#8, 0x12#8], .ldxAbs 0x1234#16),
    ([0xBE#8, 0x34#8, 0x12#8], .ldxAby 0x1234#16), ([0xA0#8, 0x5A#8], .ldyImm 0x5A#8),
    ([0xA4#8, 0x5A#8], .ldyZp 0x5A#8), ([0xB4#8, 0x5A#8], .ldyZpx 0x5A#8) ]

theorem test_decode_words41a : decodesAll words41a = true := by decide

/-- Loads, stores and transfers (41_load_store_transfer.md): words of R85, with operand field 0x5A or 0x1234. -/
def words41b : List (List Byte × Instr) :=
  [ ([0xAC#8, 0x34#8, 0x12#8], .ldyAbs 0x1234#16), ([0xBC#8, 0x34#8, 0x12#8], .ldyAbx 0x1234#16),
    ([0x85#8, 0x5A#8], .staZp 0x5A#8), ([0x95#8, 0x5A#8], .staZpx 0x5A#8),
    ([0x8D#8, 0x34#8, 0x12#8], .staAbs 0x1234#16), ([0x9D#8, 0x34#8, 0x12#8], .staAbx 0x1234#16),
    ([0x99#8, 0x34#8, 0x12#8], .staAby 0x1234#16), ([0x81#8, 0x5A#8], .staIzx 0x5A#8),
    ([0x91#8, 0x5A#8], .staIzy 0x5A#8), ([0x86#8, 0x5A#8], .stxZp 0x5A#8), ([0x96#8, 0x5A#8], .stxZpy 0x5A#8),
    ([0x8E#8, 0x34#8, 0x12#8], .stxAbs 0x1234#16), ([0x84#8, 0x5A#8], .styZp 0x5A#8),
    ([0x94#8, 0x5A#8], .styZpx 0x5A#8), ([0x8C#8, 0x34#8, 0x12#8], .styAbs 0x1234#16), ([0xAA#8], .tax) ]

theorem test_decode_words41b : decodesAll words41b = true := by decide

/-- Loads, stores and transfers (41_load_store_transfer.md): words of R85, with operand field 0x5A or 0x1234. -/
def words41c : List (List Byte × Instr) :=
  [ ([0xA8#8], .tay), ([0x8A#8], .txa), ([0x98#8], .tya), ([0xBA#8], .tsx), ([0x9A#8], .txs) ]

theorem test_decode_words41c : decodesAll words41c = true := by decide

/-- Increments, decrements, logic, bit test (42_incdec_logic.md): words of R85, with operand field 0x5A or 0x1234. -/
def words42a : List (List Byte × Instr) :=
  [ ([0xE6#8, 0x5A#8], .incZp 0x5A#8), ([0xF6#8, 0x5A#8], .incZpx 0x5A#8),
    ([0xEE#8, 0x34#8, 0x12#8], .incAbs 0x1234#16), ([0xFE#8, 0x34#8, 0x12#8], .incAbx 0x1234#16), ([0xE8#8], .inx),
    ([0xC8#8], .iny), ([0xC6#8, 0x5A#8], .decZp 0x5A#8), ([0xD6#8, 0x5A#8], .decZpx 0x5A#8),
    ([0xCE#8, 0x34#8, 0x12#8], .decAbs 0x1234#16), ([0xDE#8, 0x34#8, 0x12#8], .decAbx 0x1234#16), ([0xCA#8], .dex),
    ([0x88#8], .dey), ([0x29#8, 0x5A#8], .andImm 0x5A#8), ([0x25#8, 0x5A#8], .andZp 0x5A#8),
    ([0x35#8, 0x5A#8], .andZpx 0x5A#8), ([0x2D#8, 0x34#8, 0x12#8], .andAbs 0x1234#16) ]

theorem test_decode_words42a : decodesAll words42a = true := by decide

/-- Increments, decrements, logic, bit test (42_incdec_logic.md): words of R85, with operand field 0x5A or 0x1234. -/
def words42b : List (List Byte × Instr) :=
  [ ([0x3D#8, 0x34#8, 0x12#8], .andAbx 0x1234#16), ([0x39#8, 0x34#8, 0x12#8], .andAby 0x1234#16),
    ([0x21#8, 0x5A#8], .andIzx 0x5A#8), ([0x31#8, 0x5A#8], .andIzy 0x5A#8), ([0x09#8, 0x5A#8], .oraImm 0x5A#8),
    ([0x05#8, 0x5A#8], .oraZp 0x5A#8), ([0x15#8, 0x5A#8], .oraZpx 0x5A#8),
    ([0x0D#8, 0x34#8, 0x12#8], .oraAbs 0x1234#16), ([0x1D#8, 0x34#8, 0x12#8], .oraAbx 0x1234#16),
    ([0x19#8, 0x34#8, 0x12#8], .oraAby 0x1234#16), ([0x01#8, 0x5A#8], .oraIzx 0x5A#8),
    ([0x11#8, 0x5A#8], .oraIzy 0x5A#8), ([0x49#8, 0x5A#8], .eorImm 0x5A#8), ([0x45#8, 0x5A#8], .eorZp 0x5A#8),
    ([0x55#8, 0x5A#8], .eorZpx 0x5A#8), ([0x4D#8, 0x34#8, 0x12#8], .eorAbs 0x1234#16) ]

theorem test_decode_words42b : decodesAll words42b = true := by decide

/-- Increments, decrements, logic, bit test (42_incdec_logic.md): words of R85, with operand field 0x5A or 0x1234. -/
def words42c : List (List Byte × Instr) :=
  [ ([0x5D#8, 0x34#8, 0x12#8], .eorAbx 0x1234#16), ([0x59#8, 0x34#8, 0x12#8], .eorAby 0x1234#16),
    ([0x41#8, 0x5A#8], .eorIzx 0x5A#8), ([0x51#8, 0x5A#8], .eorIzy 0x5A#8), ([0x24#8, 0x5A#8], .bitZp 0x5A#8),
    ([0x2C#8, 0x34#8, 0x12#8], .bitAbs 0x1234#16) ]

theorem test_decode_words42c : decodesAll words42c = true := by decide

/-- Arithmetic and compare (43_arithmetic_compare.md): words of R85, with operand field 0x5A or 0x1234. -/
def words43a : List (List Byte × Instr) :=
  [ ([0x69#8, 0x5A#8], .adcImm 0x5A#8), ([0x65#8, 0x5A#8], .adcZp 0x5A#8), ([0x75#8, 0x5A#8], .adcZpx 0x5A#8),
    ([0x6D#8, 0x34#8, 0x12#8], .adcAbs 0x1234#16), ([0x7D#8, 0x34#8, 0x12#8], .adcAbx 0x1234#16),
    ([0x79#8, 0x34#8, 0x12#8], .adcAby 0x1234#16), ([0x61#8, 0x5A#8], .adcIzx 0x5A#8),
    ([0x71#8, 0x5A#8], .adcIzy 0x5A#8), ([0xE9#8, 0x5A#8], .sbcImm 0x5A#8), ([0xE5#8, 0x5A#8], .sbcZp 0x5A#8),
    ([0xF5#8, 0x5A#8], .sbcZpx 0x5A#8), ([0xED#8, 0x34#8, 0x12#8], .sbcAbs 0x1234#16),
    ([0xFD#8, 0x34#8, 0x12#8], .sbcAbx 0x1234#16), ([0xF9#8, 0x34#8, 0x12#8], .sbcAby 0x1234#16),
    ([0xE1#8, 0x5A#8], .sbcIzx 0x5A#8), ([0xF1#8, 0x5A#8], .sbcIzy 0x5A#8) ]

theorem test_decode_words43a : decodesAll words43a = true := by decide

/-- Arithmetic and compare (43_arithmetic_compare.md): words of R85, with operand field 0x5A or 0x1234. -/
def words43b : List (List Byte × Instr) :=
  [ ([0xC9#8, 0x5A#8], .cmpImm 0x5A#8), ([0xC5#8, 0x5A#8], .cmpZp 0x5A#8), ([0xD5#8, 0x5A#8], .cmpZpx 0x5A#8),
    ([0xCD#8, 0x34#8, 0x12#8], .cmpAbs 0x1234#16), ([0xDD#8, 0x34#8, 0x12#8], .cmpAbx 0x1234#16),
    ([0xD9#8, 0x34#8, 0x12#8], .cmpAby 0x1234#16), ([0xC1#8, 0x5A#8], .cmpIzx 0x5A#8),
    ([0xD1#8, 0x5A#8], .cmpIzy 0x5A#8), ([0xE0#8, 0x5A#8], .cpxImm 0x5A#8), ([0xE4#8, 0x5A#8], .cpxZp 0x5A#8),
    ([0xEC#8, 0x34#8, 0x12#8], .cpxAbs 0x1234#16), ([0xC0#8, 0x5A#8], .cpyImm 0x5A#8),
    ([0xC4#8, 0x5A#8], .cpyZp 0x5A#8), ([0xCC#8, 0x34#8, 0x12#8], .cpyAbs 0x1234#16) ]

theorem test_decode_words43b : decodesAll words43b = true := by decide

/-- Shifts and rotates (44_shift_rotate.md): words of R85, with operand field 0x5A or 0x1234. -/
def words44a : List (List Byte × Instr) :=
  [ ([0x0A#8], .aslAcc), ([0x06#8, 0x5A#8], .aslZp 0x5A#8), ([0x16#8, 0x5A#8], .aslZpx 0x5A#8),
    ([0x0E#8, 0x34#8, 0x12#8], .aslAbs 0x1234#16), ([0x1E#8, 0x34#8, 0x12#8], .aslAbx 0x1234#16),
    ([0x4A#8], .lsrAcc), ([0x46#8, 0x5A#8], .lsrZp 0x5A#8), ([0x56#8, 0x5A#8], .lsrZpx 0x5A#8),
    ([0x4E#8, 0x34#8, 0x12#8], .lsrAbs 0x1234#16), ([0x5E#8, 0x34#8, 0x12#8], .lsrAbx 0x1234#16),
    ([0x2A#8], .rolAcc), ([0x26#8, 0x5A#8], .rolZp 0x5A#8), ([0x36#8, 0x5A#8], .rolZpx 0x5A#8),
    ([0x2E#8, 0x34#8, 0x12#8], .rolAbs 0x1234#16), ([0x3E#8, 0x34#8, 0x12#8], .rolAbx 0x1234#16),
    ([0x6A#8], .rorAcc) ]

theorem test_decode_words44a : decodesAll words44a = true := by decide

/-- Shifts and rotates (44_shift_rotate.md): words of R85, with operand field 0x5A or 0x1234. -/
def words44b : List (List Byte × Instr) :=
  [ ([0x66#8, 0x5A#8], .rorZp 0x5A#8), ([0x76#8, 0x5A#8], .rorZpx 0x5A#8),
    ([0x6E#8, 0x34#8, 0x12#8], .rorAbs 0x1234#16), ([0x7E#8, 0x34#8, 0x12#8], .rorAbx 0x1234#16) ]

theorem test_decode_words44b : decodesAll words44b = true := by decide

/-- Branches, jumps, call and return (45_branch_jump_call.md): words of R85, with operand field 0x5A or 0x1234. -/
def words45a : List (List Byte × Instr) :=
  [ ([0x90#8, 0x5A#8], .bcc 0x5A#8), ([0xB0#8, 0x5A#8], .bcs 0x5A#8), ([0xF0#8, 0x5A#8], .beq 0x5A#8),
    ([0xD0#8, 0x5A#8], .bne 0x5A#8), ([0x30#8, 0x5A#8], .bmi 0x5A#8), ([0x10#8, 0x5A#8], .bpl 0x5A#8),
    ([0x50#8, 0x5A#8], .bvc 0x5A#8), ([0x70#8, 0x5A#8], .bvs 0x5A#8), ([0x20#8, 0x34#8, 0x12#8], .jsr 0x1234#16),
    ([0x60#8], .rts), ([0x4C#8, 0x34#8, 0x12#8], .jmpAbs 0x1234#16), ([0x6C#8, 0x34#8, 0x12#8], .jmpInd 0x1234#16) ]

theorem test_decode_words45a : decodesAll words45a = true := by decide

/-- Stack, flag and system instructions (46_stack_flag_system.md): words of R85, with operand field 0x5A or 0x1234. -/
def words46a : List (List Byte × Instr) :=
  [ ([0x48#8], .pha), ([0x08#8], .php), ([0x68#8], .pla), ([0x28#8], .plp), ([0x18#8], .clc), ([0x38#8], .sec),
    ([0x58#8], .cli), ([0x78#8], .sei), ([0xD8#8], .cld), ([0xF8#8], .sed), ([0xB8#8], .clv), ([0xEA#8], .nop),
    ([0x00#8], .brk), ([0x40#8], .rti) ]

theorem test_decode_words46a : decodesAll words46a = true := by decide

/-- The tables above have 151 rows, one for each row of the opcode table. -/
theorem test_decode_tables_are_whole :
    [words41a, words41b, words41c, words42a, words42b, words42c, words43a, words43b, words44a, words44b, words45a, words46a].map (fun l => l.length) =
      [16, 16, 5, 16, 16, 6, 16, 14, 16, 4, 12, 14] ∧ [16, 16, 5, 16, 16, 6, 16, 14, 16, 4, 12, 14].sum = 151 := by decide

/-- One word of each family, bit by bit. -/
theorem test_decode_bits : decodesAll [([0b10110001#8, 0b10000110#8], .ldaIzy 0x86#8),
    ([0b11111110#8, 0b00000000#8, 0b01100000#8], .incAbx 0x6000#16), ([0b01101001#8, 0b01010000#8], .adcImm 0x50#8),
    ([0b01101010#8], .rorAcc), ([0b01101100#8, 0b11111111#8, 0b00110000#8], .jmpInd 0x30FF#16),
    ([0b00001000#8], .php)] = true := by decide

theorem test_decode_rejects_by_name : decode [] = .error .noBytes ∧
    decode [0x1A#8, 0x00#8] = .error (.illegalOpcode 0x1A#8) ∧ decode [0xAD#8, 0x00#8] = .error (.truncated 0xAD#8) := by
  decide

/-- The cycle column of R85: one row of each cost. -/
theorem test_base_cycles : [0xEA#8, 0xA5#8, 0xBD#8, 0x9D#8, 0x1E#8, 0x20#8, 0x6C#8, 0x00#8, 0x02#8].map baseCycles =
    [2, 3, 4, 5, 7, 6, 5, 7, 0] := by decide

theorem test_table_word_numbering : decodeTableWord 24 0x12348D = some (.staAbs 0x1234#16) ∧
    decodeTableWord 8 0xFFFFA9 = some (.ldaImm 0x00#8) ∧ decodeTableWord 8 0x02 = none := by decide

/-- The encoder against the same words (R85), one for each operand length. -/
theorem test_encode : encode .tya = [0x98#8] ∧ encode (.cpyZp 0x10#8) = [0xC4#8, 0x10#8] ∧
    encode (.jmpAbs 0x8002#16) = [0x4C#8, 0x02#8, 0x80#8] := by decide

/-- The displacements of the example programs (R89): 0xF8 for a branch from 0x800A to 0x8004, and one out of reach. -/
theorem test_branch_displacement : branchDisplacement? 0x800A#16 0x8004#16 = some 0xF8#8 ∧
    branchDisplacement? 0x8000#16 0x8082#16 = none := by decide

/-! ### One step of each instruction (spec/95_test_vectors.md) -/

/-- S3: matches the source: sum 0x0A0, bit 8 = 0; both operands positive, result negative, so V = 1. -/
theorem test_adc_imm_s3 : after (step ({ start [0x69#8, 0x50#8] [] with a := 0x50#8 }))
    (fun t => t.a == 0xA0#8 && t.p == 0xE4#8) = true := by decide

/-- S10a: 5 - 1 with C = 1 (no borrow) = 4, C = 1. -/
theorem test_sbc_imm_s10a : after (step ({ start [0xE9#8, 0x01#8] [] with a := 0x05#8, p := 0x25#8 }))
    (fun t => t.a == 0x04#8) = true := by decide

/-- S5: target 0x1234 (high byte from 0x3000), not 0x5634. -/
theorem test_jmp_ind_s5 : after (step (start [0x6C#8, 0xFF#8, 0x30#8] [(0x30FF#16, 0x34#8), (0x3000#16, 0x12#8), (0x3100#16, 0x56#8)]))
    (fun t => t.pc == 0x1234#16) = true := by decide

/-- S6b: push from SP = 0x00 writes 0x0100 and SP becomes 0xFF (the "0x00 underflow wraps to 0xFF" of §4.5); nothing is written at 0x00FF or 0x01FF. -/
theorem test_pha_s6b : after (step ({ start [0x48#8] [] with a := 0x77#8, sp := 0x00#8 }))
    (fun t => t.sp == 0xFF#8 && t.memRead 0x0100#16 == 0x77#8) = true := by decide

/-- S6c: pop from SP = 0xFF reads 0x0100, not 0x0200: the pointer never leaves the page. -/
theorem test_pla_s6c : after (step ({ start [0x68#8] [(0x0100#16, 0x66#8), (0x0200#16, 0x55#8)] with sp := 0xFF#8 }))
    (fun t => t.a == 0x66#8 && t.sp == 0x00#8) = true := by decide

/-- V-LD4: ZPX wraps in page 0: 0xF0 + 0x20 = 0x10, not 0x0110. -/
theorem test_lda_zpx_vld4 : after (step ({ start [0xB5#8, 0xF0#8] [(0x0010#16, 0x11#8), (0x0110#16, 0x22#8)] with x := 0x20#8 }))
    (fun t => t.a == 0x11#8) = true := by decide

/-- V-LD11: (zp),Y pointer at 0xFF: high byte from 0x0000 (decision D12); 0x6FFF + 1 = 0x7000. -/
theorem test_lda_izy_vld11 : after (step ({ start [0xB1#8, 0xFF#8] [(0x00FF#16, 0xFF#8), (0x0000#16, 0x6F#8), (0x0100#16, 0x50#8), (0x7000#16, 0xA5#8), (0x5100#16, 0x5A#8)] with y := 0x01#8 }))
    (fun t => t.a == 0xA5#8 && t.p == 0xA4#8) = true := by decide

/-- V-LD13: ZPY wraps: 0x80 + 0x90 = 0x10. -/
theorem test_ldx_zpy_vld13 : after (step ({ start [0xB6#8, 0x80#8] [(0x0010#16, 0x01#8)] with y := 0x90#8 }))
    (fun t => t.x == 0x01#8) = true := by decide

/-- V-LD14: LDX absolute,Y. -/
theorem test_ldx_aby_vld14 : after (step ({ start [0xBE#8, 0x00#8, 0x61#8] [(0x6105#16, 0x80#8)] with y := 0x05#8 }))
    (fun t => t.x == 0x80#8 && t.p == 0xA4#8) = true := by decide

/-- V-LD16: LDY zero-page,X. -/
theorem test_ldy_zpx_vld16 : after (step ({ start [0xB4#8, 0x10#8] [(0x0011#16, 0x44#8)] with x := 0x01#8 }))
    (fun t => t.y == 0x44#8) = true := by decide

/-- V-LD17: LDY absolute,X. -/
theorem test_ldy_abx_vld17 : after (step ({ start [0xBC#8, 0x00#8, 0x62#8] [(0x62FF#16, 0xFE#8)] with x := 0xFF#8 }))
    (fun t => t.y == 0xFE#8 && t.p == 0xA4#8) = true := by decide

/-- V-ST5: ABY page crossing. -/
theorem test_sta_aby_vst5 : after (step ({ start [0x99#8, 0xF0#8, 0x60#8] [] with a := 0x56#8, y := 0x20#8 }))
    (fun t => t.memRead 0x6110#16 == 0x56#8) = true := by decide

/-- V-ST6: (zp,X): 0x10 + 0xF5 = 0x05. -/
theorem test_sta_izx_vst6 : after (step ({ start [0x81#8, 0x10#8] [(0x0005#16, 0x00#8), (0x0006#16, 0x61#8)] with a := 0x78#8, x := 0xF5#8 }))
    (fun t => t.memRead 0x6100#16 == 0x78#8) = true := by decide

/-- V-ST10: STX zero-page,Y. -/
theorem test_stx_zpy_vst10 : after (step ({ start [0x96#8, 0x20#8] [] with x := 0xEE#8, y := 0x03#8 }))
    (fun t => t.memRead 0x0023#16 == 0xEE#8) = true := by decide

/-- V-ST11: STX absolute. -/
theorem test_stx_abs_vst11 : after (step ({ start [0x8E#8, 0x00#8, 0x70#8] [] with x := 0x01#8 }))
    (fun t => t.memRead 0x7000#16 == 0x01#8) = true := by decide

/-- V-ST13: STY zero-page,X. -/
theorem test_sty_zpx_vst13 : after (step ({ start [0x94#8, 0x21#8] [] with x := 0x01#8, y := 0xDD#8 }))
    (fun t => t.memRead 0x0022#16 == 0xDD#8) = true := by decide

/-- V-ST14: STY absolute. -/
theorem test_sty_abs_vst14 : after (step ({ start [0x8C#8, 0x01#8, 0x70#8] [] with y := 0x02#8 }))
    (fun t => t.memRead 0x7001#16 == 0x02#8) = true := by decide

/-- V-TR1: TAX sets N. -/
theorem test_tax_vtr1 : after (step ({ start [0xAA#8] [] with a := 0x80#8, x := 0x01#8 }))
    (fun t => t.x == 0x80#8 && t.p == 0xA4#8) = true := by decide

/-- V-TR2: TAY sets Z. -/
theorem test_tay_vtr2 : after (step ({ start [0xA8#8] [] with a := 0x00#8, y := 0x01#8 }))
    (fun t => t.y == 0x00#8 && t.p == 0x26#8) = true := by decide

/-- V-TR3: TXA. -/
theorem test_txa_vtr3 : after (step ({ start [0x8A#8] [] with x := 0x7F#8 }))
    (fun t => t.a == 0x7F#8) = true := by decide

/-- V-TR4: TYA. -/
theorem test_tya_vtr4 : after (step ({ start [0x98#8] [] with y := 0xFF#8 }))
    (fun t => t.a == 0xFF#8 && t.p == 0xA4#8) = true := by decide

/-- V-TR5: TSX: X = SP = 0xFD, N = 1. -/
theorem test_tsx_vtr5 : after (step (start [0xBA#8] []))
    (fun t => t.x == 0xFD#8 && t.p == 0xA4#8) = true := by decide

/-- V-TR6: TXS with X = 0: SP = 0x00 and Z stays 0 (TXS writes no flag; decision D11). -/
theorem test_txs_vtr6 : after (step ({ start [0x9A#8] [] with x := 0x00#8 }))
    (fun t => t.sp == 0x00#8 && t.p == 0x24#8) = true := by decide

/-- V-TR7: TXS with X = 0xFF: N stays 0. -/
theorem test_txs_vtr7 : after (step ({ start [0x9A#8] [] with x := 0xFF#8 }))
    (fun t => t.sp == 0xFF#8 && t.p == 0x24#8) = true := by decide

/-- V-INC1: 0xFF + 1 wraps to 0x00: Z = 1, C untouched (stays 1). -/
theorem test_inc_zp_vinc1 : after (step ({ start [0xE6#8, 0x10#8] [(0x0010#16, 0xFF#8)] with p := 0x25#8 }))
    (fun t => t.p == 0x27#8 && t.memRead 0x0010#16 == 0x00#8) = true := by decide

/-- V-INC13: read-modify-write through a mirror image (0x0A34 -> cell 0x0234). -/
theorem test_inc_abs_vinc13 : after (step (start [0xEE#8, 0x34#8, 0x0A#8] [(0x0234#16, 0x41#8)]))
    (fun t => t.memRead 0x0234#16 == 0x42#8) = true := by decide

/-- V-INC5: 0x00 - 1 wraps to 0xFF: N = 1. -/
theorem test_dec_zp_vinc5 : after (step (start [0xC6#8, 0x10#8] [(0x0010#16, 0x00#8)]))
    (fun t => t.p == 0xA4#8 && t.memRead 0x0010#16 == 0xFF#8) = true := by decide

/-- V-INC8: DEC absolute,X. -/
theorem test_dec_abx_vinc8 : after (step ({ start [0xDE#8, 0x00#8, 0x60#8] [(0x6002#16, 0x10#8)] with x := 0x02#8 }))
    (fun t => t.memRead 0x6002#16 == 0x0F#8) = true := by decide

/-- V-INC9: INX wraps. -/
theorem test_inx_vinc9 : after (step ({ start [0xE8#8] [] with x := 0xFF#8 }))
    (fun t => t.x == 0x00#8 && t.p == 0x26#8) = true := by decide

/-- V-INC10: INY to 0x80. -/
theorem test_iny_vinc10 : after (step ({ start [0xC8#8] [] with y := 0x7F#8 }))
    (fun t => t.y == 0x80#8 && t.p == 0xA4#8) = true := by decide

/-- V-INC11: DEX wraps to 0xFF. -/
theorem test_dex_vinc11 : after (step ({ start [0xCA#8] [] with x := 0x00#8 }))
    (fun t => t.x == 0xFF#8 && t.p == 0xA4#8) = true := by decide

/-- V-INC12: DEY to zero. -/
theorem test_dey_vinc12 : after (step ({ start [0x88#8] [] with y := 0x01#8 }))
    (fun t => t.y == 0x00#8 && t.p == 0x26#8) = true := by decide

/-- V-LOG2: AND zero page. -/
theorem test_and_zp_vlog2 : after (step ({ start [0x25#8, 0x10#8] [(0x0010#16, 0x80#8)] with a := 0xFF#8 }))
    (fun t => t.a == 0x80#8 && t.p == 0xA4#8) = true := by decide

/-- V-LOG3: AND (zp),Y: 0x60FF + 1 = 0x6100. -/
theorem test_and_izy_vlog3 : after (step ({ start [0x31#8, 0x10#8] [(0x0010#16, 0xFF#8), (0x0011#16, 0x60#8), (0x6100#16, 0x0F#8)] with a := 0x3C#8, y := 0x01#8 }))
    (fun t => t.a == 0x0C#8) = true := by decide

/-- V-LOG4: ORA. -/
theorem test_ora_imm_vlog4 : after (step ({ start [0x09#8, 0x80#8] [] with a := 0x01#8 }))
    (fun t => t.a == 0x81#8 && t.p == 0xA4#8) = true := by decide

/-- V-LOG6: ORA absolute,X. -/
theorem test_ora_abx_vlog6 : after (step ({ start [0x1D#8, 0x00#8, 0x60#8] [(0x6001#16, 0x01#8)] with a := 0x10#8, x := 0x01#8 }))
    (fun t => t.a == 0x11#8) = true := by decide

/-- V-LOG8: EOR 0xFF = complement. -/
theorem test_eor_imm_vlog8 : after (step ({ start [0x49#8, 0xFF#8] [] with a := 0x0F#8 }))
    (fun t => t.a == 0xF0#8 && t.p == 0xA4#8) = true := by decide

/-- V-LOG9: EOR (zp,X). -/
theorem test_eor_izx_vlog9 : after (step ({ start [0x41#8, 0x00#8] [(0x0010#16, 0x00#8), (0x0011#16, 0x60#8), (0x6000#16, 0xAA#8)] with a := 0x55#8, x := 0x10#8 }))
    (fun t => t.a == 0xFF#8 && t.p == 0xA4#8) = true := by decide

/-- V-BIT2: N and V cleared from memory bits; Z = 0. -/
theorem test_bit_zp_vbit2 : after (step ({ start [0x24#8, 0x40#8] [(0x0040#16, 0x01#8)] with a := 0xFF#8, p := 0xE4#8 }))
    (fun t => t.p == 0x24#8) = true := by decide

/-- V-BIT4: N = 1, V = 0, Z = 1. -/
theorem test_bit_abs_vbit4 : after (step ({ start [0x2C#8, 0x00#8, 0x60#8] [(0x6000#16, 0x80#8)] with a := 0x00#8 }))
    (fun t => t.p == 0xA6#8) = true := by decide

/-- V-ADC8: D = 1: 0x09 + 0x01 = 0x0A (binary), not 0x10 (BCD); decision D10. -/
theorem test_adc_imm_vadc8 : after (step ({ start [0x69#8, 0x01#8] [] with a := 0x09#8, p := 0x2C#8 }))
    (fun t => t.a == 0x0A#8) = true := by decide

/-- V-SBC4: 127 - (-1) = 128: V = 1, C = 0. -/
theorem test_sbc_imm_vsbc4 : after (step ({ start [0xE9#8, 0xFF#8] [] with a := 0x7F#8, p := 0x25#8 }))
    (fun t => t.a == 0x80#8 && t.p == 0xE4#8) = true := by decide

/-- V-CMP2: equal: C = 1, Z = 1; V untouched (stays 1). -/
theorem test_cmp_imm_vcmp2 : after (step ({ start [0xC9#8, 0x10#8] [] with a := 0x10#8, p := 0x64#8 }))
    (fun t => t.p == 0x67#8) = true := by decide

/-- V-CMP3: 0x80 vs 0: C = 1, N = 1 (bit 7 of the truncated difference). -/
theorem test_cmp_imm_vcmp3 : after (step ({ start [0xC9#8, 0x00#8] [] with a := 0x80#8 }))
    (fun t => t.p == 0xA5#8) = true := by decide

/-- V-CMP8: CPX zero page: 0 - 1 = 0xFF, C = 0. -/
theorem test_cpx_zp_vcmp8 : after (step ({ start [0xE4#8, 0x10#8] [(0x0010#16, 0x01#8)] with x := 0x00#8 }))
    (fun t => t.p == 0xA4#8) = true := by decide

/-- V-CMP9: CPX absolute: d = 0x80. -/
theorem test_cpx_abs_vcmp9 : after (step ({ start [0xEC#8, 0x00#8, 0x60#8] [(0x6000#16, 0x7F#8)] with x := 0xFF#8 }))
    (fun t => t.p == 0xA5#8) = true := by decide

/-- V-CMP10: CPY. -/
theorem test_cpy_imm_vcmp10 : after (step ({ start [0xC0#8, 0x01#8] [] with y := 0xFF#8 }))
    (fun t => t.p == 0xA5#8) = true := by decide

/-- V-CMP12: CPY absolute 0 vs 0. -/
theorem test_cpy_abs_vcmp12 : after (step ({ start [0xCC#8, 0x00#8, 0x60#8] [(0x6000#16, 0x00#8)] with y := 0x00#8 }))
    (fun t => t.p == 0x27#8) = true := by decide

/-- V-SH2: ASL ignores carry-in: bit 0 = 0, C = 0. -/
theorem test_asl_acc_vsh2 : after (step ({ start [0x0A#8] [] with a := 0x40#8, p := 0x25#8 }))
    (fun t => t.a == 0x80#8 && t.p == 0xA4#8) = true := by decide

/-- V-SH4: ASL absolute,X. -/
theorem test_asl_abx_vsh4 : after (step ({ start [0x1E#8, 0x00#8, 0x60#8] [(0x6001#16, 0x01#8)] with x := 0x01#8 }))
    (fun t => t.memRead 0x6001#16 == 0x02#8) = true := by decide

/-- V-SH6: LSR: N always 0 afterwards. -/
theorem test_lsr_acc_vsh6 : after (step ({ start [0x4A#8] [] with a := 0xFF#8, p := 0xA4#8 }))
    (fun t => t.a == 0x7F#8 && t.p == 0x25#8) = true := by decide

/-- V-SH8: LSR zero-page,X. -/
theorem test_lsr_zpx_vsh8 : after (step ({ start [0x56#8, 0x10#8] [(0x0011#16, 0x03#8)] with x := 0x01#8 }))
    (fun t => t.p == 0x25#8 && t.memRead 0x0011#16 == 0x01#8) = true := by decide

/-- V-SH10: ROL A, C = 1: carry enters bit 0, C = 0. -/
theorem test_rol_acc_vsh10 : after (step ({ start [0x2A#8] [] with a := 0x00#8, p := 0x25#8 }))
    (fun t => t.a == 0x01#8 && t.p == 0x24#8) = true := by decide

/-- V-SH12: ROL absolute,X across a page. -/
theorem test_rol_abx_vsh12 : after (step ({ start [0x3E#8, 0xFF#8, 0x60#8] [(0x6100#16, 0x55#8)] with x := 0x01#8 }))
    (fun t => t.p == 0xA4#8 && t.memRead 0x6100#16 == 0xAA#8) = true := by decide

/-- V-SH14: ROR A, C = 1: carry enters bit 7, N = 1. -/
theorem test_ror_acc_vsh14 : after (step ({ start [0x6A#8] [] with a := 0x00#8, p := 0x25#8 }))
    (fun t => t.a == 0x80#8 && t.p == 0xA4#8) = true := by decide

/-- V-SH17: ROR zero-page,X with wrap: 0xFF + 1 = 0x00. -/
theorem test_ror_zpx_vsh17 : after (step ({ start [0x76#8, 0xFF#8] [(0x0000#16, 0x02#8)] with x := 0x01#8, p := 0x25#8 }))
    (fun t => t.p == 0xA4#8 && t.memRead 0x0000#16 == 0x81#8) = true := by decide

/-- V-BR1: BCC taken, forward: 0x8002 + 5. -/
theorem test_bcc_vbr1 : after (step ({ start [0x90#8, 0x05#8] [] with p := 0x24#8 }))
    (fun t => t.pc == 0x8007#16) = true := by decide

/-- V-BR2: BCC not taken: PC = P0 + 2. -/
theorem test_bcc_vbr2 : after (step ({ start [0x90#8, 0x05#8] [] with p := 0x25#8 }))
    (fun t => t.pc == 0x8002#16) = true := by decide

/-- V-BR3: BCS taken, backward: 0x8002 - 5. -/
theorem test_bcs_vbr3 : after (step ({ start [0xB0#8, 0xFB#8] [] with p := 0x25#8 }))
    (fun t => t.pc == 0x7FFD#16) = true := by decide

/-- V-BR4: BCS not taken. -/
theorem test_bcs_vbr4 : after (step ({ start [0xB0#8, 0xFB#8] [] with p := 0x24#8 }))
    (fun t => t.pc == 0x8002#16) = true := by decide

/-- V-BR5: BEQ taken, largest forward displacement +127. -/
theorem test_beq_vbr5 : after (step ({ start [0xF0#8, 0x7F#8] [] with p := 0x26#8 }))
    (fun t => t.pc == 0x8081#16) = true := by decide

/-- V-BR20: branch target wraps modulo 65536: 0xFFFA + 0x10 = 0x000A. -/
theorem test_beq_vbr20 : after (step ({ start [] [(0xFFF8#16, 0xF0#8), (0xFFF9#16, 0x10#8)] with pc := 0xFFF8#16, p := 0x26#8 }))
    (fun t => t.pc == 0x000A#16) = true := by decide

/-- V-BR7: BNE taken, largest backward displacement -128: 0x8002 - 128. -/
theorem test_bne_vbr7 : after (step ({ start [0xD0#8, 0x80#8] [] with p := 0x24#8 }))
    (fun t => t.pc == 0x7F82#16) = true := by decide

/-- V-BR19: displacement -1 taken: PC = P0 + 1 and stays there (relocation by write, decision D7); a value-comparing implementation would give 0x8002. -/
theorem test_bne_vbr19 : after (step ({ start [0xD0#8, 0xFF#8] [] with p := 0x24#8 }))
    (fun t => t.pc == 0x8001#16) = true := by decide

/-- V-BR9: BMI taken. -/
theorem test_bmi_vbr9 : after (step ({ start [0x30#8, 0x02#8] [] with p := 0xA4#8 }))
    (fun t => t.pc == 0x8004#16) = true := by decide

/-- V-BR10: BMI not taken. -/
theorem test_bmi_vbr10 : after (step ({ start [0x30#8, 0x02#8] [] with p := 0x24#8 }))
    (fun t => t.pc == 0x8002#16) = true := by decide

/-- V-BR11: BPL taken. -/
theorem test_bpl_vbr11 : after (step ({ start [0x10#8, 0x02#8] [] with p := 0x24#8 }))
    (fun t => t.pc == 0x8004#16) = true := by decide

/-- V-BR21: backward wrap below zero: 0x0006 - 16 = 0xFFF6 (code fetched from zero page). -/
theorem test_bpl_vbr21 : after (step ({ start [] [(0x0004#16, 0x10#8), (0x0005#16, 0xF0#8)] with pc := 0x0004#16, p := 0x24#8 }))
    (fun t => t.pc == 0xFFF6#16) = true := by decide

/-- V-BR13: BVC taken. -/
theorem test_bvc_vbr13 : after (step ({ start [0x50#8, 0x02#8] [] with p := 0x24#8 }))
    (fun t => t.pc == 0x8004#16) = true := by decide

/-- V-BR14: BVC not taken. -/
theorem test_bvc_vbr14 : after (step ({ start [0x50#8, 0x02#8] [] with p := 0x64#8 }))
    (fun t => t.pc == 0x8002#16) = true := by decide

/-- V-BR15: BVS taken. -/
theorem test_bvs_vbr15 : after (step ({ start [0x70#8, 0x02#8] [] with p := 0x64#8 }))
    (fun t => t.pc == 0x8004#16) = true := by decide

/-- V-BR16: BVS not taken. -/
theorem test_bvs_vbr16 : after (step ({ start [0x70#8, 0x02#8] [] with p := 0x24#8 }))
    (fun t => t.pc == 0x8002#16) = true := by decide

/-- V-JMP6: pointer 0xFFFF: high byte from 0xFF00, not 0x0000. -/
theorem test_jmp_ind_vjmp6 : after (step (start [0x6C#8, 0xFF#8, 0xFF#8] [(0xFFFF#16, 0x21#8), (0xFF00#16, 0x43#8), (0x0000#16, 0x65#8)]))
    (fun t => t.pc == 0x4321#16) = true := by decide

/-- V-JMP7: JSR whose last byte is on the next page: pushes 0x8100 (0x81 at 0x01FD; the low byte 0x00 written at 0x01FC equals the old content, so it is not listed). -/
theorem test_jsr_abs_vjmp7 : after (step ({ start [] [(0x80FE#16, 0x20#8), (0x80FF#16, 0x34#8), (0x8100#16, 0x12#8)] with pc := 0x80FE#16 }))
    (fun t => t.sp == 0xFB#8 && t.pc == 0x1234#16 && t.memRead 0x01FD#16 == 0x81#8) = true := by decide

/-- V-JMP8: JSR with SP = 0x00: high byte at 0x0100, SP wraps to 0xFF, low byte at 0x01FF, SP = 0xFE. -/
theorem test_jsr_abs_vjmp8 : after (step ({ start [0x20#8, 0x00#8, 0x90#8] [] with sp := 0x00#8 }))
    (fun t => t.sp == 0xFE#8 && t.pc == 0x9000#16 && t.memRead 0x0100#16 == 0x80#8 && t.memRead 0x01FF#16 == 0x02#8) = true := by decide

/-- V-JMP10: RTS popped 0xFFFF: resumes at 0x0000. -/
theorem test_rts_vjmp10 : after (step ({ start [0x60#8] [(0x01FC#16, 0xFF#8), (0x01FD#16, 0xFF#8)] with sp := 0xFB#8 }))
    (fun t => t.sp == 0xFD#8 && t.pc == 0x0000#16) = true := by decide

/-- V-JMP11: RTS with the stack wrapping: low from 0x01FF, high from 0x0100, SP = 0x00. -/
theorem test_rts_vjmp11 : after (step ({ start [0x60#8] [(0x01FF#16, 0x10#8), (0x0100#16, 0x90#8)] with sp := 0xFE#8 }))
    (fun t => t.sp == 0x00#8 && t.pc == 0x9011#16) = true := by decide

/-- V-STK1: PHA. -/
theorem test_pha_vstk1 : after (step ({ start [0x48#8] [] with a := 0x42#8 }))
    (fun t => t.sp == 0xFC#8 && t.memRead 0x01FD#16 == 0x42#8) = true := by decide

/-- V-STK3: PHP: 0xE3 OR 0x30 = 0xF3. -/
theorem test_php_vstk3 : after (step ({ start [0x08#8] [] with p := 0xE3#8 }))
    (fun t => t.sp == 0xFC#8 && t.memRead 0x01FD#16 == 0xF3#8 && t.p == 0xE3#8) = true := by decide

/-- V-STK4: PLA zero: Z = 1. -/
theorem test_pla_vstk4 : after (step ({ start [0x68#8] [(0x01FD#16, 0x00#8)] with a := 0x11#8, sp := 0xFC#8 }))
    (fun t => t.a == 0x00#8 && t.sp == 0xFD#8 && t.p == 0x26#8) = true := by decide

/-- V-STK6: PLP of 0xFF: bit 4 cleared, P = 0xEF. -/
theorem test_plp_vstk6 : after (step ({ start [0x28#8] [(0x01FD#16, 0xFF#8)] with sp := 0xFC#8 }))
    (fun t => t.sp == 0xFD#8 && t.p == 0xEF#8) = true := by decide

/-- V-STK7: PLP of 0x00: bit 5 forced, P = 0x20. -/
theorem test_plp_vstk7 : after (step ({ start [0x28#8] [(0x01FD#16, 0x00#8)] with sp := 0xFC#8 }))
    (fun t => t.sp == 0xFD#8 && t.p == 0x20#8) = true := by decide

/-- V-FLG1: CLC. -/
theorem test_clc_vflg1 : after (step ({ start [0x18#8] [] with p := 0x25#8 }))
    (fun t => t.p == 0x24#8) = true := by decide

/-- V-FLG2: SEC. -/
theorem test_sec_vflg2 : after (step ({ start [0x38#8] [] with p := 0x24#8 }))
    (fun t => t.p == 0x25#8) = true := by decide

/-- V-FLG3: CLI. -/
theorem test_cli_vflg3 : after (step ({ start [0x58#8] [] with p := 0x24#8 }))
    (fun t => t.p == 0x20#8) = true := by decide

/-- V-FLG4: SEI. -/
theorem test_sei_vflg4 : after (step ({ start [0x78#8] [] with p := 0x20#8 }))
    (fun t => t.p == 0x24#8) = true := by decide

/-- V-FLG5: CLD. -/
theorem test_cld_vflg5 : after (step ({ start [0xD8#8] [] with p := 0x2C#8 }))
    (fun t => t.p == 0x24#8) = true := by decide

/-- V-FLG6: SED. -/
theorem test_sed_vflg6 : after (step ({ start [0xF8#8] [] with p := 0x24#8 }))
    (fun t => t.p == 0x2C#8) = true := by decide

/-- V-FLG7: CLV. -/
theorem test_clv_vflg7 : after (step ({ start [0xB8#8] [] with p := 0x64#8 }))
    (fun t => t.p == 0x24#8) = true := by decide

/-- V-FLG9: NOP: only PC and cycles. -/
theorem test_nop_vflg9 : after (step ({ start [0xEA#8] [] with a := 0x12#8, x := 0x34#8, y := 0x56#8, p := 0xE7#8 }))
    (fun t => t.p == 0xE7#8 && t.cycles == 2) = true := by decide

/-- V-SYS1: BRK: run = HaltedBrk, PC = P0 + 1, nothing pushed, I and B unchanged, no cycles (decision D8). -/
theorem test_brk_vsys1 : after (step ({ start [0x00#8] [] with a := 0x12#8, p := 0x24#8 }))
    (fun t => t.pc == 0x8001#16 && t.run == .haltedBrk && t.cycles == 0) = true := by decide

/-- V-SYS3: RTI keeps popped bit 4 (P.B = 1) and forces bit 5: P = 0x30 (decision D13). -/
theorem test_rti_vsys3 : after (step ({ start [0x40#8] [(0x01FB#16, 0x10#8), (0x01FC#16, 0x00#8), (0x01FD#16, 0x90#8)] with sp := 0xFA#8 }))
    (fun t => t.sp == 0xFD#8 && t.p == 0x30#8 && t.pc == 0x9000#16) = true := by decide

/-- V-SYS4: RTI with the stack wrapping: P from 0x01FF, PC low from 0x0100, high from 0x0101; SP = 0x01. -/
theorem test_rti_vsys4 : after (step ({ start [0x40#8] [(0x01FF#16, 0x01#8), (0x0100#16, 0x00#8), (0x0101#16, 0x90#8)] with sp := 0xFE#8 }))
    (fun t => t.sp == 0x01#8 && t.p == 0x21#8 && t.pc == 0x9000#16) = true := by decide

/-- V-SYS10: fault address is the bus address before mirroring: HaltedFault(0x12, 0x1234) although the byte came from cell 0x0234. -/
theorem test_illegal_vsys10 : after (step ({ start [] [(0x1234#16, 0x12#8)] with pc := 0x1234#16 }))
    (fun t => t.pc == 0x1235#16 && t.run == .haltedFault 0x12#8 0x1234#16) = true := by decide

/-! ### The bus, reset, load, run, and the host's placement -/

/-- S1, V-MEM2 and the boundary of S1: a write through one image is read through the others and not from 0x2234. -/
theorem test_mirror_images : let m := Memory.write 0x1234#16 0xAB#8 freshBus
    [0x0234#16, 0x0A34#16, 0x1234#16, 0x1A34#16, 0x2234#16].map (fun a => m.read a) =
      [0xAB#8, 0xAB#8, 0xAB#8, 0xAB#8, 0x00#8] ∧
    [0x1FFF#16, 0x2000#16, 0x0800#16, 0x07FF#16].map phys = [0x07FF, 0x2000, 0x0000, 0x07FF] := by decide

/-- S2: a word at 0xFFFF wraps to 0x0000, and a word at 0x1FFF crosses the end of the mirrored range. -/
theorem test_word_wrap : let m := Memory.write16 0xFFFF#16 0xBEEF#16 freshBus
    let n := m.write16 0x1FFF#16 0x1234#16
    m.read 0xFFFF#16 = 0xEF#8 ∧ m.read 0x1800#16 = 0xBE#8 ∧ m.read16 0xFFFF#16 = 0xBEEF#16 ∧
    n.readCell 0x07FF = 0x34#8 ∧ n.readCell 0x2000 = 0x12#8 ∧ n.read16 0x07FF#16 = 0xBE34#16 := by decide

/-- Writing 0x00 removes a cell from the list, and the canonical form is refused where an index repeats. -/
theorem test_memory_canonical_form : Memory.write 0x0810#16 0x00#8 (Memory.write 0x0010#16 0x55#8 freshBus) = freshBus ∧
    Memory.wf [(3, 0x01#8), (3, 0x02#8)] = false ∧ Memory.wf [(3, 0x00#8)] = false ∧
    Memory.hiddenClear [(0x0800, 0x01#8)] = false := by decide

/-- V-RST2, V-RST4: reset from a halted state reads the vector again and keeps memory, with either parameter set. -/
theorem test_reset_restarts : let s : State := { start [] [(0xFFFC#16, 0x00#8), (0xFFFD#16, 0x80#8), (0x6000#16, 0x99#8)] with
      a := 0x7F#8, x := 0x7F#8, sp := 0x7F#8, p := 0x25#8, run := .haltedBrk, cycles := 8 }
    s.resetWith Config.default = { start [] [] with mem := s.mem } ∧
    (s.resetWith { Config.default with spReset := 0xFF#8, pReset := 0x34#8 }).sp = 0xFF#8 ∧
    (s.resetWith { Config.default with spReset := 0xFF#8, pReset := 0x34#8 }).p = 0x34#8 := by decide

/-- V-RST3, R33: no step in a halted state, and a run invocation returns at once. -/
theorem test_halted_states_have_no_step :
    stopsWith (step { start [0xEA#8] [] with run := .haltedBrk }) .afterBreak = true ∧
    stopsWith (step { start [0xEA#8] [] with run := .haltedFault 0x02#8 0x8003#16 }) (.afterIllegalOpcode 0x02#8 0x8003#16) = true ∧
    (runInvocation Config.default none identityObserver 5 { start [0xEA#8] [] with run := .haltedBrk, cycles := 7 }).map
      (fun o => (o.retired, o.state.cycles)) = some (0, 7) := by
  decide

/-- P7, invocation 1: a budget of 1 runs one whole instruction and calls no observer. -/
theorem test_budget_of_one :
    (runInvocation Config.default (some 1) identityObserver 5 (start [0xA2#8, 0x00#8] [])).map
      (fun o => (o.retired, o.observed, o.state.cycles, o.state.pc, o.state.run, o.why)) =
    some (1, 0, 2, 0x8002#16, .running, .budget) := by decide

/-- R125: a budget of `some 0` is refused, in a running state and in a halted one. -/
theorem test_budget_of_zero_is_refused :
    runInvocation Config.default (some 0) identityObserver 5 (start [0xA2#8, 0x00#8] []) = none ∧
    runInvocation Config.default (some 0) identityObserver 5 { start [] [] with run := .haltedBrk } = none := by decide

/-- R293, R295, R296: a start-up; a load past the end and parameters without bit 5 of P_RESET (R290) are refused. -/
theorem test_boot : ((boot? Config.default 0x8000#16 [0xA9#8, 0x05#8, 0x00#8]).map fun s => (s.pc, s.memRead 0x8001#16)) =
      some (0x8000#16, 0x05#8) ∧ boot? Config.default 0xFFFE#16 [0xEA#8, 0xEA#8, 0xEA#8] = none ∧
    boot? { Config.default with pReset := 0x04#8 } 0x8000#16 [0xEA#8] = none := by decide

/-- The host's placement: the next step runs the word's instruction, also from a halted state. -/
theorem test_placement : after (step (State.reset.withFetchWord 16 0x85A9)) (fun t => t.a == 0x85#8) = true ∧
    after (step ({ State.reset with run := .haltedBrk, pc := 0xFFFE#16 }.withFetchWord 24 0x12344C))
      (fun t => t.pc == 0x1234#16) = true := by decide


/-! ### The hypotheses of the statements are met -/

/-- A memory in canonical form, used as a witness: cells in both regions of the map. -/
def someMemory : Memory := [(0x0010, 0x7F#8), (0x01FD, 0x80#8), (0x2000, 0x01#8)]

/-- A running state over it. -/
def someState : State := { start [] [] with mem := someMemory, a := 0x12#8, x := 0xFF#8, sp := 0x00#8 }

/-- The decode's ranges at their bounds: 0x1FFF and 0x2000, cell 0x07FF and cell 0x2000. -/
theorem witness_PhysFoldsTheMirroredRange : (0x1FFF#16).toNat ≤ 0x1FFF ∧ 0x2000 ≤ (0x2000#16).toNat ∧
    phys 0x1FFF#16 = 0x07FF ∧ phys 0x2000#16 = 0x2000 ∧ phys 0xFFFF#16 = 0xFFFF := by decide

theorem witness_BusReadsAndWritesOneCell : someState.mem.wf = true ∧ someState.mem.readCell 0x2000 = 0x01#8 := by decide

/-- The mirrored clause at both ends of the range, and two addresses in different cells. -/
theorem witness_BusRoundTripsThroughMirrors : someMemory.wf = true ∧ (0x07FF#16).toNat ≤ 0x1FFF ∧
    (0x1FFF#16).toNat ≤ 0x1FFF ∧ (0x1FFF#16).toNat % 0x0800 = (0x07FF#16).toNat % 0x0800 ∧
    phys 0x2000#16 ≠ phys 0x1FFF#16 := by decide

theorem witness_PushAndPopStayInTheStackPage : someState.mem.wf = true ∧ someState.sp = 0x00#8 := by decide

theorem witness_PoppedWordIsThePushedOne : someState.mem.wf = true ∧
    phys 0x2000#16 ≠ phys (stackAddr someState.sp) ∧ phys 0x2000#16 ≠ phys (stackAddr (someState.sp - 1#8)) := by decide

/-- A fetch of each mode without a pointer. -/
theorem witness_ResolverDirectAndIndexedModes :
    [([0xEA#8], Instr.nop, Mode.IMP), ([0x0A#8], .aslAcc, .ACC), ([0xA5#8, 0xFF#8], .ldaZp 0xFF#8, .ZP),
      ([0xB5#8, 0xF0#8], .ldaZpx 0xF0#8, .ZPX), ([0xB6#8, 0x80#8], .ldxZpy 0x80#8, .ZPY),
      ([0xAD#8, 0xFF#8, 0xFF#8], .ldaAbs 0xFFFF#16, .ABS), ([0xBD#8, 0xFF#8, 0x60#8], .ldaAbx 0x60FF#16, .ABX),
      ([0xB9#8, 0xFF#8, 0xFF#8], .ldaAby 0xFFFF#16, .ABY)].all (fun p =>
        decide (((start p.1 []).fetch.map Prod.fst) = .ok p.2.1) && decide (p.2.1.mode = p.2.2)) = true := by decide

/-- A fetch of each pointer mode, at the page wrap and away from it. -/
theorem witness_ResolverPointerModes :
    [([0x6C#8, 0xFF#8, 0x30#8], Instr.jmpInd 0x30FF#16, Mode.IND), ([0x6C#8, 0xFE#8, 0x30#8], .jmpInd 0x30FE#16, .IND),
      ([0xA1#8, 0xFF#8], .ldaIzx 0xFF#8, .IZX), ([0xA1#8, 0x20#8], .ldaIzx 0x20#8, .IZX)].all (fun p =>
        decide (((start p.1 []).fetch.map Prod.fst) = .ok p.2.1) && decide (p.2.1.mode = p.2.2)) = true := by decide

theorem witness_ResolverRelativeMode :
    (start [0xD0#8, 0x80#8] []).fetch = .ok (.bne 0x80#8, [0x00#8]) ∧ Instr.mode (.bne 0x80#8) = .REL := by decide

theorem witness_ResolverImmediateAndIndirectIndexed :
    (start [0xA9#8, 0x05#8] []).fetch = .ok (.ldaImm 0x05#8, [0x00#8]) ∧ Instr.mode (.ldaImm 0x05#8) = .IMM ∧
    (start [0xB1#8, 0xFF#8] []).fetch = .ok (.ldaIzy 0xFF#8, [0x00#8]) ∧ Instr.mode (.ldaIzy 0xFF#8) = .IZY := by
  decide

theorem witness_LoadsPutTheOperandInTheRegister : [Instr.ldaIzy 0xFF#8, .ldxZpy 0x80#8, .ldyAbx 0xFFFF#16].map Instr.mnemonic =
    [.LDA, .LDX, .LDY] := by decide

theorem witness_StoresPutTheRegisterAtEA : someState.mem.wf = true ∧
    [Instr.staIzx 0xFF#8, .stxZpy 0x80#8, .styAbs 0x1FFF#16].map Instr.mnemonic = [.STA, .STX, .STY] := by decide

theorem witness_IncrementsAndDecrementsOfMemory : someState.mem.wf = true ∧
    [Instr.incZpx 0x11#8, .decAbs 0x2000#16].map Instr.mnemonic = [.INC, .DEC] := by decide

theorem witness_LogicCombinesTheAccumulator : [Instr.andImm 0x0F#8, .oraZp 0x10#8, .eorIzx 0x00#8].map Instr.mnemonic =
    [.AND, .ORA, .EOR] := by decide

theorem witness_BitTestsMemoryAgainstTheAccumulator : [Instr.bitZp 0x40#8, .bitAbs 0x6000#16].map Instr.mnemonic =
    [.BIT, .BIT] := by decide

theorem witness_AddWithCarry : Instr.mnemonic (.adcImm 0x7F#8) = .ADC := by decide

theorem witness_SubtractWithBorrow : Instr.mnemonic (.sbcIzy 0x10#8) = .SBC := by decide

theorem witness_ComparesSetCarryZeroNegative : [Instr.cmpAby 0x6000#16, .cpxImm 0x05#8, .cpyZp 0x10#8].map Instr.mnemonic =
    [.CMP, .CPX, .CPY] := by decide

theorem witness_ShiftsOfTheAccumulator : [Instr.aslAcc, .lsrAcc, .rolAcc, .rorAcc].map Instr.mnemonic = shifts ∧
    [Instr.aslAcc, .lsrAcc, .rolAcc, .rorAcc].map Instr.mode = [.ACC, .ACC, .ACC, .ACC] := by decide

theorem witness_ShiftsOfMemory : someState.mem.wf = true ∧
    [Instr.aslZp 0x10#8, .lsrZpx 0x11#8, .rolAbs 0x2000#16, .rorAbx 0x1F00#16].map Instr.mnemonic = shifts ∧
    [Instr.aslZp 0x10#8, .lsrZpx 0x11#8, .rolAbs 0x2000#16, .rorAbx 0x1F00#16].all (fun i => decide (i.mode ≠ .ACC)) = true := by
  decide

/-- Every branch, with its condition true in one state and false in another. -/
theorem witness_BranchesTestOneFlag : [Instr.bcc 5#8, .bcs 5#8, .beq 5#8, .bne 5#8, .bmi 5#8, .bpl 5#8, .bvc 5#8, .bvs 5#8].map
      Instr.mnemonic = branches ∧
    branches.map (branchCondition { someState with p := 0x20#8 }) = [true, false, false, true, false, true, true, false].map some ∧
    branches.map (branchCondition { someState with p := 0xE3#8 }) = [false, true, true, false, true, false, false, true].map some := by
  decide

theorem witness_CallPushesItsLastByteAddress : someState.mem.wf = true ∧ someState.sp = 0x00#8 := by decide

theorem witness_ReturnPairsWithCall : someState.mem.wf = true := by decide

theorem witness_JumpRelocatesToEA : [Instr.jmpAbs 0x8001#16, .jmpInd 0x30FF#16].map Instr.mnemonic = [.JMP, .JMP] := by decide

theorem witness_PushesOfAccumulatorAndStatus : someState.mem.wf = true := by decide

theorem witness_StepRunsTheDecodedInstruction : let s := start [0xA9#8, 0x05#8] []
    s.run = .running ∧ decode [s.memRead s.pc, s.memRead (s.pc + 1#16), s.memRead (s.pc + 2#16)] =
      .ok (.ldaImm 0x05#8, [0x00#8]) := by decide

theorem witness_IllegalOpcodeHaltsWithItsByteAndAddress : let s := start [0x02#8] []
    s.run = .running ∧ entryOf? (s.memRead s.pc) = none := by decide

theorem witness_RunningStepsGoOnAndHaltedStepsStop : someState.run = .running ∧
    State.run { someState with run := .haltedBrk } = .haltedBrk ∧
    State.run { someState with run := .haltedFault 0x02#8 0x8003#16 } = .haltedFault 0x02#8 0x8003#16 := by decide

theorem witness_BreakEndsTheStepAtOnce : let s := start [0x00#8] []
    s.run = .running ∧ s.memRead s.pc = 0x00#8 := by decide

/-- A handler that does not relocate, one that does, and a branch that is not taken. -/
theorem witness_SequentialAdvanceUnlessRelocated :
    (start [0xAD#8, 0x34#8, 0x12#8] []).fetch = .ok (.ldaAbs 0x1234#16, []) ∧
    after (exec (.ldaAbs 0x1234#16) (start [0xAD#8, 0x34#8, 0x12#8] []).afterOpcode)
      (fun u => u.run == .running && !u.pcw) = true ∧
    after (step (start [0xAD#8, 0x34#8, 0x12#8] [])) (fun t => t.pc == 0x8003#16) = true ∧
    (start [0x4C#8, 0x01#8, 0x80#8] []).fetch = .ok (.jmpAbs 0x8001#16, []) ∧
    after (exec (.jmpAbs 0x8001#16) (start [0x4C#8, 0x01#8, 0x80#8] []).afterOpcode)
      (fun u => u.run == .running && u.pcw) = true ∧
    (start [0x90#8, 0x05#8] []).fetch = .ok (.bcc 0x05#8, [0x00#8]) ∧
    branchCondition { start [0x90#8, 0x05#8] [] with p := 0x25#8 } (Instr.mnemonic (.bcc 0x05#8)) = some false := by decide

/-- A jump relocates and a load does not, from a state with the marker clear. -/
theorem witness_OnlyControlTransfersRelocate : someState.pcw = false ∧
    after (exec (.jmpAbs 0x8001#16) someState) State.pcw = true ∧
    after (exec (.ldaImm 0x05#8) someState) (fun t => !t.pcw) = true := by decide

/-- A step that keeps running, and the two that halt. -/
theorem witness_CyclesGrowByTheOpcodeCost : after (step (start [0xEA#8] [])) (fun t => t.run == .running) = true ∧
    after (step (start [0x00#8] [])) (fun t => t.run != .running) = true ∧
    after (step (start [0x02#8] [])) (fun t => t.run != .running) = true := by decide

/-- PLP, from a status byte with every flag 0, changes each flag but B and bit 5; RTI changes B. -/
theorem witness_FlagsChangeOnlyByTheirWriters :
    after (step { start [0x28#8] [(0x01FD#16, 0xFF#8)] with sp := 0xFC#8, p := 0x20#8 })
      (fun t => [Flag.C, .Z, .I, .D, .V, .N].all fun f => t.flag f) = true ∧
    after (step { start [0x40#8] [(0x01FB#16, 0x10#8)] with sp := 0xFA#8, p := 0x20#8 }) (fun t => t.flag .B) = true := by
  decide

/-- A step that changes each of A, X, Y and SP. -/
theorem witness_RegistersChangeOnlyByTheirWriters :
    after (step (start [0xA9#8, 0x05#8] [])) (fun t => t.a != 0x00#8) = true ∧
    after (step (start [0xE8#8] [])) (fun t => t.x != 0x00#8) = true ∧
    after (step (start [0xC8#8] [])) (fun t => t.y != 0x00#8) = true ∧
    after (step (start [0x48#8] [])) (fun t => t.sp != 0xFD#8) = true := by decide

theorem witness_MemoryChangesOnlyByStoringInstructions :
    after (step { start [0x85#8, 0x10#8] [] with a := 0x12#8 }) (fun t => t.memRead 0x0010#16 != 0x00#8) = true ∧
    after (step (start [0x26#8, 0x10#8] [(0x0010#16, 0x01#8)])) (fun t => t.memRead 0x0010#16 != 0x01#8) = true := by
  decide

/-- A step of ADC with D set; and one of PHP, for B. -/
theorem witness_InterruptDecimalBreakFlagsHaveNoEffect :
    (start [0x69#8, 0x10#8] []).fetch = .ok (.adcImm 0x10#8, [0x00#8]) ∧ Instr.mnemonic (.adcImm 0x10#8) ≠ .PHP ∧
    after (step { start [0x69#8, 0x10#8] [] with p := 0x2C#8 }) (fun _ => true) = true ∧
    after (step (start [0x08#8] [])) (fun _ => true) = true ∧ Flag.B ∈ [Flag.I, .D, .B] := by decide

theorem witness_StepsKeepTheInvariant : State.reset.Inv ∧ after (step State.reset) (fun _ => true) = true := by
  refine ⟨⟨?_, ?_, ?_, ?_⟩, ?_⟩ <;> decide

theorem witness_ResetEstablishesTheInvariant : Config.default.wf = true ∧ someState.mem.wf = true ∧
    someState.mem.hiddenClear = true := by decide

theorem witness_StepAgreesWithTheRulesPseudocode : someState.run = .running := by decide

/-- A load that fits up to the last byte of the address space, one that does not, and two addresses of one cell. -/
theorem witness_LoadPlacesTheBytes : someMemory.wf = true ∧ (0xFFFE#16).toNat + [0xEA#8, 0xEA#8].length ≤ 65536 ∧
    65536 < (0xFFFE#16).toNat + [0xEA#8, 0xEA#8, 0xEA#8].length ∧
    phys (0xFFFE#16 + BitVec.ofNat 16 1) ≠ phys (0xFFFE#16 + BitVec.ofNat 16 0) ∧
    phys 0x8000#16 ≠ phys (0xFFFE#16 + BitVec.ofNat 16 1) := by decide

theorem witness_BootStartsAtTheOrigin : (boot? Config.default 0x8000#16 [0xA9#8, 0x05#8, 0x00#8]).isSome = true := by
  decide

/-- A run that ends on BRK, one that ends on its budget, and one that does not begin. -/
theorem witness_RunCountsObserverCalls :
    (runInvocation Config.default none identityObserver 3 (start [0xEA#8, 0x00#8] [])).map RunOut.why = some .halted ∧
    (runInvocation Config.default (some 3) identityObserver 3 (start [0xEA#8, 0xEA#8, 0xEA#8] [])).map RunOut.why =
      some .budget ∧
    State.run { someState with run := .haltedBrk } ≠ .running := by decide

theorem witness_RunIsRepeatedStep : (start [0xEA#8, 0x00#8] []).run = .running := by decide

theorem witness_RunsKeepTheInvariant : Observer.admitted identityObserver ∧ State.reset.Inv ∧
    (runInvocation Config.default (some 1) identityObserver 1 State.reset).isSome = true :=
  ⟨fun _ _ h1 h2 h3 => ⟨h1, h2, h3⟩, witness_StepsKeepTheInvariant.1, rfl⟩

theorem witness_EncodeOfDecode : decode [0x8D#8, 0x34#8, 0x12#8, 0xEA#8] = .ok (.staAbs 0x1234#16, [0xEA#8]) := by
  decide


end Sys2Proof.Tests
end

section
/-! The address decode and the bus (spec/20_memory.md R52 to R57): which addresses reach a cell, what a write through
the bus does to every cell, and what is read back. -/

namespace Sys2Proof.Machine

/-! ### The address decode -/

/-- R52, the two ranges of the address decode as one case split. -/
theorem phys_cases (a : Word) :
    (a.toNat ≤ 0x1FFF ∧ phys a = a.toNat % 0x0800) ∨ (0x2000 ≤ a.toNat ∧ phys a = a.toNat) := by
  by_cases h : a.toNat ≤ 0x1FFF
  · exact .inl ⟨h, phys_of_le h⟩
  · exact .inr ⟨by omega, phys_of_gt (by omega)⟩

theorem toNat_and_mirrorMask (a : Word) : (a &&& 0x07FF#16).toNat = a.toNat % 0x0800 := by
  rw [BitVec.toNat_and]
  exact Nat.and_two_pow_sub_one_eq_mod a.toNat 11

/-- A cell of the first 2,048 is reached through the four images of its address. -/
theorem phys_eq_iff_image {i : Nat} (hi : i ≤ 0x07FF) (a : Word) :
    phys a = i ↔ a.toNat = i ∨ a.toNat = i + 0x0800 ∨ a.toNat = i + 0x1000 ∨ a.toNat = i + 0x1800 := by
  obtain ⟨ha, hphys⟩ | ⟨ha, hphys⟩ := phys_cases a <;> omega

theorem phys_eq_iff_toNat_eq {i : Nat} (hi : 0x2000 ≤ i) (a : Word) : phys a = i ↔ a.toNat = i := by
  obtain ⟨ha, hphys⟩ | ⟨ha, hphys⟩ := phys_cases a <;> omega

/-- The two bytes of a word lie in different cells, also across 0x1FFF and 0xFFFF. -/
theorem phys_ne_phys_succ (a : Word) : phys a ≠ phys (a + 1#16) := by
  have hsucc : (a + 1#16).toNat = (a.toNat + 1) % 65536 := BitVec.toNat_add a 1#16
  obtain ⟨ha, hphys⟩ | ⟨ha, hphys⟩ := phys_cases a <;>
    obtain ⟨ha', hphys'⟩ | ⟨ha', hphys'⟩ := phys_cases (a + 1#16) <;> omega

/-- Two addresses of the mirrored range with one offset reach one cell. -/
theorem phys_congr_of_mod_eq {a b : Word} (ha : a.toNat ≤ 0x1FFF) (hb : b.toNat ≤ 0x1FFF)
    (h : b.toNat % 0x0800 = a.toNat % 0x0800) : phys b = phys a := by
  rw [phys_of_le ha, phys_of_le hb, h]

/-- The low 11 bits of a mirrored address are the address of its cell in the first image. -/
theorem phys_and_mirrorMask {a : Word} (ha : a.toNat ≤ 0x1FFF) : phys (a &&& 0x07FF#16) = phys a :=
  have hmask := toNat_and_mirrorMask a
  phys_congr_of_mod_eq ha (by omega) (by omega)

/-! ### The bus -/

/-- A write through the bus is seen in the cell the address decodes to and in no other. -/
theorem Memory.readCell_write {m : Memory} (hm : m.wf = true) (a : Word) (v : Byte) (k : Nat) :
    (m.write a v).readCell k = if k = phys a then v else m.readCell k := by
  split
  · next h => rw [h]; exact Memory.readCell_writeCell_same hm _ _
  · next h => exact Memory.readCell_writeCell_ne h _ _

theorem Memory.read_write_of_phys_eq {m : Memory} (hm : m.wf = true) {a b : Word} (h : phys b = phys a) (v : Byte) :
    (m.write a v).read b = v := by
  rw [Memory.read_write hm, if_pos h]

/-- R57: the second byte's write leaves the first byte's cell alone, so the word is read back at every address. -/
theorem Memory.read16_write16 {m : Memory} (hm : m.wf = true) (a w : Word) : (m.write16 a w).read16 a = w := by
  have hlo : (m.write16 a w).read a = loByte w := by
    rw [Memory.write16, Memory.read_write_ne (phys_ne_phys_succ a), Memory.read_write_same hm]
  have hhi : (m.write16 a w).read (a + 1#16) = hiByte w :=
    Memory.read_write_same (Memory.write_wf hm _ _) _ _
  rw [Memory.read16, hlo, hhi, wordOfBytes_hiByte_loByte]

end Sys2Proof.Machine

namespace Sys2Proof.Proofs

open Sys2Proof.Machine

/-- Settles O1: every clause is read off the two ranges of the decode; the two word accesses at the range's end and at
the end of the first image evaluate it at their four addresses. -/
theorem physFoldsTheMirroredRange : Obligations.PhysFoldsTheMirroredRange := by
  refine ⟨fun a => ⟨fun ha => ⟨?_, phys_of_le ha⟩, fun ha => phys_of_gt ha⟩, fun i a hi => phys_eq_iff_image hi a,
    fun i a hi => phys_eq_iff_toNat_eq hi a, fun a => ?_, fun m => ⟨rfl, rfl⟩, phys_ne_phys_succ⟩
  · rw [phys_of_le ha, toNat_and_mirrorMask]
  · have := phys_not_hidden a
    omega

/-- Settles O2: the frame holds by the definition of the write, the cells by `Memory.readCell_write`. -/
theorem busReadsAndWritesOneCell : Obligations.BusReadsAndWritesOneCell :=
  fun _ a v => ⟨rfl, rfl, fun hm k => Memory.readCell_write hm a v k⟩

/-- Settles O3: images of one cell by the decode, words by `Memory.read16_write16`, other cells by the bus's frame. -/
theorem busRoundTripsThroughMirrors : Obligations.BusRoundTripsThroughMirrors :=
  fun _ hm => ⟨fun _ _ v ha hb hab =>
      ⟨Memory.read_write_of_phys_eq hm (phys_and_mirrorMask ha) v,
        Memory.read_write_of_phys_eq hm (phys_congr_of_mod_eq ha hb hab) v⟩,
    Memory.read16_write16 hm, fun _ _ v h => Memory.read_write_ne h v⟩

end Sys2Proof.Proofs
end

section
/-! Fetch, the resolver and the sequential advance (spec/40_fetch_execute_addressing.md R100 to R120): the operand a
fetch finds, as memory at PC has it; what a handler can do to PC, the marker and the cycle total; what the loop does
after the handler. -/

namespace Sys2Proof

/-- The constructor that a mnemonic and an operand select has them for its source (R90). -/
theorem source_of_ofSource? {src : Source} {i : Instr} (h : Instr.ofSource? src = some i) : i.source = src := by
  unfold Instr.ofSource? at h
  split at h <;> split at h <;> cases h <;> rfl

/-- What a decoded instruction is: the mnemonic of the opcode's entry with the operand that the entry's mode reads. -/
theorem decode_eq_ok {op : Byte} {bytes rest : List Byte} {i : Instr} (h : decode (op :: bytes) = .ok (i, rest)) :
    ∃ e, entryOf? op = some e ∧ i.mnemonic = e.mnemonic ∧ e.mode.takeOperand bytes = some (i.operand, rest) := by
  simp only [decode] at h
  split at h
  · cases h
  · next e he =>
    split at h
    · cases h
    · next o rest' ho =>
      split at h
      · cases h
      · next i' hi =>
        cases h
        have hsrc := source_of_ofSource? hi
        refine ⟨e, he, ?_, ?_⟩
        · rw [Instr.mnemonic, hsrc]
        · rw [Instr.operand, hsrc, ho]

theorem Instr.wf_eq_true (i : Instr) : i.wf = true := by
  cases i <;> rfl

theorem Instr.mode_mem_modes (i : Instr) : i.mode ∈ i.mnemonic.modes :=
  List.contains_iff_mem.mp i.wf_eq_true

/-- An instruction is 1, 2 or 3 bytes long (R80). -/
theorem Mode.length_bounds (m : Mode) : 1 ≤ m.length ∧ m.length ≤ 3 := by
  cases m <;> decide

end Sys2Proof

namespace Sys2Proof.Machine

open Sys2Proof.Claims

/-! ### The operand a fetch finds -/

/-- The operand of a mode with its field as memory at PC holds it (R81, R83, R111 to R119). -/
def State.operandAtPC (s : State) : Mode → Operand
  | .IMP => .imp
  | .ACC => .acc
  | .IMM => .imm (s.memRead s.pc)
  | .ZP => .mem (.zp (s.memRead s.pc))
  | .ZPX => .mem (.zpx (s.memRead s.pc))
  | .ZPY => .mem (.zpy (s.memRead s.pc))
  | .ABS => .mem (.abs (s.memRead16 s.pc))
  | .ABX => .mem (.abx (s.memRead16 s.pc))
  | .ABY => .mem (.aby (s.memRead16 s.pc))
  | .IND => .ind (s.memRead16 s.pc)
  | .IZX => .mem (.izx (s.memRead s.pc))
  | .IZY => .mem (.izy (s.memRead s.pc))
  | .REL => .rel (s.memRead s.pc)

@[simp] theorem State.mode_operandAtPC (s : State) (m : Mode) : (s.operandAtPC m).mode = m := by
  cases m <;> rfl

/-- A mode that reads the bytes at PC reads the operand that stands there. -/
theorem takeOperand_at_pc {s : State} {m : Mode} {o : Operand} {rest : List Byte}
    (h : m.takeOperand [s.memRead s.pc, s.memRead (s.pc + 1#16)] = some (o, rest)) : o = s.operandAtPC m := by
  cases m <;> cases h <;> rfl

/-- The state the handler starts in sees the operand bytes that the fetch read. -/
theorem State.fetchBytes_eq (s : State) : s.fetchBytes =
    [s.opcodeByte, s.afterOpcode.memRead s.afterOpcode.pc, s.afterOpcode.memRead (s.afterOpcode.pc + 1#16)] := by
  rw [State.afterOpcode_pc, BitVec.add_assoc]
  rfl

/-- R101, R102 and log 28: a fetched instruction's operand is the one at PC when its handler starts. -/
theorem operand_of_fetch {s : State} {i : Instr} {rest : List Byte} (h : s.fetch = .ok (i, rest)) :
    i.operand = s.afterOpcode.operandAtPC i.mode := by
  rw [State.fetch, State.fetchBytes_eq] at h
  obtain ⟨e, _, _, htake⟩ := decode_eq_ok h
  have hop := takeOperand_at_pc htake
  have hmode : i.mode = e.mode := by rw [Instr.mode, hop, State.mode_operandAtPC]
  rw [hmode, hop]

/-- The resolver and the length for the mode of a fetched instruction. -/
theorem resolve_of_fetch {s : State} {i : Instr} {rest : List Byte} (h : s.fetch = .ok (i, rest)) {m : Mode}
    (hm : i.mode = m) : i.length = m.length ∧
      s.afterOpcode.resolve i.operand = s.afterOpcode.resolve (s.afterOpcode.operandAtPC m) := by
  rw [operand_of_fetch h, Instr.length, hm]
  exact ⟨rfl, rfl⟩

/-! ### The arithmetic of the effective address -/

/-- R113: indexing in page 0 wraps modulo 256. -/
theorem toNat_zext16_add (d i : Byte) : (zext16 (d + i)).toNat = (d.toNat + i.toNat) % 256 := by
  rw [toNat_zext16, BitVec.toNat_add]

/-- R115: indexing a word wraps modulo 65536. -/
theorem toNat_add_zext16 (w : Word) (i : Byte) : (w + zext16 i).toNat = (w.toNat + i.toNat) % 65536 := by
  rw [BitVec.toNat_add, toNat_zext16]

theorem zext16_eq_ofNat (b : Byte) : zext16 b = BitVec.ofNat 16 b.toNat :=
  (BitVec.ofNat_toNat 16 b).symm

theorem loByte_eq_iff (w : Word) (b : Byte) : loByte w = b ↔ w.toNat % 256 = b.toNat := by
  rw [← BitVec.toNat_inj, toNat_loByte]

/-- R116: the indirect target, its page wrap told by the pointer's value. -/
theorem State.indirectTarget_eq (s : State) (ptr : Word) : s.indirectTarget ptr =
    if ptr.toNat % 256 = 0xFF then wordOfBytes (s.memRead (ptr &&& 0xFF00#16)) (s.memRead ptr)
    else s.memRead16 ptr := by
  simp only [State.indirectTarget, loByte_eq_iff]
  rfl

/-- R117: the two bytes of a zero-page pointer, their addresses modulo 256. -/
theorem State.zpPointer_eq (s : State) (zp : Byte) : s.zpPointer zp =
    wordOfBytes (s.memRead (BitVec.ofNat 16 ((zp.toNat + 1) % 256))) (s.memRead (BitVec.ofNat 16 zp.toNat)) := by
  rw [State.zpPointer, zext16_eq_ofNat, zext16_eq_ofNat, BitVec.toNat_add]
  rfl

/-! ### What a handler can do to PC, the marker and the cycle total -/

@[simp] theorem State.shiftOf_pc (f : Byte → Bool → ShiftOut) (o : Operand) (s : State) : (s.shiftOf f o).pc = s.pc := by
  cases o <;> rfl

@[simp] theorem State.shiftOf_cycles (f : Byte → Bool → ShiftOut) (o : Operand) (s : State) :
    (s.shiftOf f o).cycles = s.cycles := by
  cases o <;> rfl

@[simp] theorem State.branchOf_cycles (c : Bool) (o : Operand) (s : State) : (s.branchOf c o).cycles = s.cycles := by
  cases c <;> rfl

/-- R210: a branch that leaves the marker clear leaves PC. -/
theorem State.branchOf_pc_of_pcw {c : Bool} {o : Operand} {s : State} (h : (s.branchOf c o).pcw = false) :
    (s.branchOf c o).pc = s.pc := by
  cases c
  · rfl
  · cases h

/-- R107: no handler writes the cycle total. -/
@[simp] theorem State.effect_cycles (s : State) (o : Operand) (m : Mnemonic) : (s.effect o m).cycles = s.cycles := by
  cases m <;> simp [State.effect]

/-- R211 to R218: a mnemonic with a branch condition branches on it. -/
theorem State.effect_of_branchCondition {s : State} {m : Mnemonic} {c : Bool} (h : branchCondition s m = some c)
    (o : Operand) : s.effect o m = s.branchOf c o := by
  cases m <;> cases h <;> rfl

/-- R105: a handler that did not relocate left PC where it was. The control transfers set the marker, a branch is as
`State.branchOf_pc_of_pcw` says, and no other operation writes PC. -/
theorem State.effect_pc_of_pcw {s : State} {o : Operand} {m : Mnemonic} (h : (s.effect o m).pcw = false) :
    (s.effect o m).pc = s.pc := by
  cases hb : branchCondition s m with
  | some c =>
    rw [State.effect_of_branchCondition hb] at h ⊢
    exact State.branchOf_pc_of_pcw h
  | none => cases m <;> simp_all [State.effect, branchCondition]

theorem branchCondition_afterOpcode (s : State) (m : Mnemonic) :
    branchCondition s.afterOpcode m = branchCondition s m := rfl

/-- The branches have the relative mode alone (R85). -/
theorem mode_of_branchCondition {s : State} {i : Instr} {c : Bool} (h : branchCondition s i.mnemonic = some c) :
    i.mode = .REL := by
  have hmode := i.mode_mem_modes
  revert h hmode
  cases i.mnemonic <;> simp [branchCondition, Mnemonic.modes]

/-! ### What the loop does after the handler -/

theorem State.endStep_cycles_of_running {s : State} (h : s.run = .running) (cfg : Config) (op : Byte) (i : Instr) :
    (s.endStep cfg op i).cycles = s.cycles + cfg.cyc op := by
  simp [State.endStep, h]

theorem State.endStep_cycles_of_halted {s : State} (h : s.run ≠ .running) (cfg : Config) (op : Byte) (i : Instr) :
    (s.endStep cfg op i).cycles = s.cycles := by
  simp [State.endStep, h]

theorem State.endStep_run (s : State) (cfg : Config) (op : Byte) (i : Instr) : (s.endStep cfg op i).run = s.run := by
  obtain ⟨_, _, _, _, _, _, hrun⟩ := endStep_frame cfg op i s
  exact hrun

/-- R104: after a handler that relocated, PC keeps the handler's value. -/
theorem State.endStep_pc_of_relocated {s : State} (hr : s.run = .running) (h : s.pcw = true) (cfg : Config) (op : Byte)
    (i : Instr) : (s.endStep cfg op i).pc = s.pc := by
  simp [State.endStep, State.advance, hr, h]

/-- R104: after a handler that did not relocate, PC advances over the operand bytes. -/
theorem State.endStep_pc_of_sequential {s : State} (hr : s.run = .running) (h : s.pcw = false) (cfg : Config) (op : Byte)
    (i : Instr) : (s.endStep cfg op i).pc = s.pc + BitVec.ofNat 16 (i.length - 1) := by
  simp [State.endStep, State.advance, hr, h]

/-- The opcode byte and the operand bytes together are the instruction's length. -/
theorem add_one_add_ofNat_length (pc : Word) (i : Instr) :
    pc + 1#16 + BitVec.ofNat 16 (i.length - 1) = pc + BitVec.ofNat 16 i.length := by
  have hpos : 1 ≤ i.length := i.mode.length_bounds.1
  rw [BitVec.add_assoc, ← BitVec.ofNat_add, Nat.add_sub_cancel' hpos]

end Sys2Proof.Machine

namespace Sys2Proof.Proofs

open Sys2Proof.Machine Sys2Proof.Claims

/-- Settles O7: the operand is the one at PC, and each mode's address is its arithmetic. -/
theorem resolverDirectAndIndexedModes : Obligations.ResolverDirectAndIndexedModes := by
  intro s i rest hf h
  refine ⟨?_, fun hm => ?_, fun hm => ?_, fun hm => ?_, fun hm => ?_, fun hm => ?_, fun hm => ?_⟩
  · rintro (hm | hm) <;> exact (resolve_of_fetch hf hm).symm
  all_goals obtain ⟨hlen, hea⟩ := resolve_of_fetch hf hm
  · exact ⟨hlen, _, hea, toNat_zext16 _⟩
  · exact ⟨hlen, _, hea, toNat_zext16_add _ _⟩
  · exact ⟨hlen, _, hea, toNat_zext16_add _ _⟩
  · exact ⟨hlen, hea⟩
  · exact ⟨hlen, _, hea, toNat_add_zext16 _ _⟩
  · exact ⟨hlen, _, hea, toNat_add_zext16 _ _⟩

/-- Settles O8: the operand is the one at PC, and each pointer's bytes lie where `State.indirectTarget_eq` and
`State.zpPointer_eq` say. -/
theorem resolverPointerModes : Obligations.ResolverPointerModes := by
  intro s i rest hf h
  refine ⟨fun hm => ?_, fun hm => ?_⟩
  · obtain ⟨hlen, hea⟩ := resolve_of_fetch hf hm
    exact ⟨hlen, hea.trans (congrArg some (State.indirectTarget_eq _ _))⟩
  · obtain ⟨hlen, hea⟩ := resolve_of_fetch hf hm
    refine ⟨hlen, hea.trans (congrArg some ((State.zpPointer_eq _ _).trans ?_))⟩
    rw [BitVec.toNat_add]

/-- Settles O40: a handler that did not relocate left PC one past the opcode, and the loop adds the operand bytes; a
branch that is not taken is such a handler, of length 2. -/
theorem sequentialAdvanceUnlessRelocated : Obligations.SequentialAdvanceUnlessRelocated := by
  intro cfg s t u i rest hr hf hu hur ht
  obtain rfl : u.endStep cfg s.opcodeByte i = t := Host.Outcome.next.inj ((stepWith_of_fetch hr hf hu).symm.trans ht)
  have hue := eq_effect hu
  have hseq : u.pcw = false → (u.endStep cfg s.opcodeByte i).pc = s.pc + BitVec.ofNat 16 i.length := by
    intro hpcw
    have hpc : u.pc = s.pc + 1#16 := by
      rw [hue] at hpcw ⊢
      exact State.effect_pc_of_pcw hpcw
    rw [State.endStep_pc_of_sequential hur hpcw, hpc, add_one_add_ofNat_length]
  refine ⟨hseq, fun hpcw => State.endStep_pc_of_relocated hur hpcw _ _ _, fun hb => ?_, i.mode.length_bounds⟩
  rw [← branchCondition_afterOpcode] at hb
  have hstay : u = s.afterOpcode := hue.trans (State.effect_of_branchCondition hb _)
  have hlen : i.length = 2 := by rw [Instr.length, mode_of_branchCondition hb]; rfl
  rw [hseq (by rw [hstay, State.afterOpcode_pcw]), hlen]

/-- Settles O42: no handler writes the cycle total, and the loop adds the fetched opcode's cost exactly where the
handler left the machine running. -/
theorem cyclesGrowByTheOpcodeCost : Obligations.CyclesGrowByTheOpcodeCost := by
  intro cfg s t h
  obtain ⟨_, ⟨_, _, rfl⟩ | ⟨i, rest, u, _, hu, rfl⟩⟩ := stepWith_cases h
  · exact ⟨nofun, fun _ => rfl⟩
  · have hcycles : u.cycles = s.cycles := by rw [eq_effect hu, State.effect_cycles, State.afterOpcode_cycles]
    rw [State.endStep_run]
    refine ⟨fun hrun => ?_, fun hrun => ?_⟩
    · rw [State.endStep_cycles_of_running hrun, hcycles]; rfl
    · rw [State.endStep_cycles_of_halted hrun, hcycles]

/-- Settles O4: the flags by `State.flag_setZN`, the other fields by definition. -/
theorem setZNWritesZeroAndNegative : Obligations.SetZNWritesZeroAndNegative := by
  intro v s
  refine ⟨⟨State.flag_setZN .Z v s, (State.flag_setZN .N v s).trans (BitVec.msb_eq_getLsbD_last v)⟩,
    fun f hf => ?_, rfl⟩
  obtain ⟨hZ, hN⟩ : f ≠ .Z ∧ f ≠ .N := by simpa using hf
  rw [State.flag_setZN, if_neg hN, if_neg hZ]

end Sys2Proof.Proofs
end

section
/-! The adder and the compares (spec/43_arithmetic_compare.md R180, R184 to R187): the adder's carry and overflow as
arithmetic, the flags of a comparison, and which operands have a data byte. -/

namespace Sys2Proof

/-- The mnemonics that read a data byte and write none (R126). -/
def readingMnemonics : List Mnemonic := [.LDA, .LDX, .LDY, .AND, .ORA, .EOR, .BIT, .ADC, .SBC, .CMP, .CPX, .CPY]

/-- A reading mnemonic has only modes with a data byte (R85, R126). -/
theorem Mnemonic.modes_of_reading :
    ∀ m ∈ readingMnemonics, ∀ k ∈ m.modes, k ∉ [Mode.IMP, .ACC, .IND, .REL] := by
  decide

theorem compares_subset_readingMnemonics : [Mnemonic.CMP, .CPX, .CPY] ⊆ readingMnemonics := by
  decide

end Sys2Proof

namespace Sys2Proof.Machine

open Sys2Proof.Claims

/-! ### The adder -/

theorem addCore_r_toNat (a m : Byte) (c : Bool) : (addCore a m c).r.toNat = (a.toNat + m.toNat + c.toNat) % 256 :=
  BitVec.toNat_ofNat _ 8

theorem addCore_cout_iff (a m : Byte) (c : Bool) :
    (addCore a m c).cout = true ↔ 256 ≤ a.toNat + m.toNat + c.toNat :=
  decide_eq_true_iff

/-- R180's own reading of the overflow: the operands share a sign and the result has the other one. -/
theorem addCore_vout_iff_signs (a m : Byte) (c : Bool) :
    (addCore a m c).vout = true ↔ a.msb = m.msb ∧ (addCore a m c).r.msb ≠ a.msb := by
  have hv : (addCore a m c).vout = ((a.msb ^^ (addCore a m c).r.msb) && (m.msb ^^ (addCore a m c).r.msb)) := by
    rw [← BitVec.msb_xor, ← BitVec.msb_xor, ← BitVec.msb_and]
    rfl
  rw [hv]
  cases a.msb <;> cases m.msb <;> cases (addCore a m c).r.msb <;> decide

/-- The two readings of the overflow agree: the result's sign is wrong exactly where the signed sum has no byte. -/
theorem addCore_vout_iff_signedOverflow (a m : Byte) (c : Bool) :
    (addCore a m c).vout = true ↔ SignedOverflow (a.toInt + m.toInt + c.toNat) := by
  have hr := addCore_r_toNat a m c
  have hc := c.toNat_le
  simp only [addCore_vout_iff_signs, SignedOverflow, BitVec.msb_eq_decide, decide_eq_decide, ne_eq,
    BitVec.toInt_eq_toNat_cond]
  split <;> split <;> omega

/-! ### The data byte of a reading instruction -/

/-- A mode that addresses a data byte, or has it as its operand field, gives one (R126). -/
theorem State.operandByte?_eq_byteOf {o : Operand} (h : o.mode ∉ [Mode.IMP, .ACC, .IND, .REL]) (s : State) :
    s.operandByte? o = some (s.byteOf o) := by
  cases o with
  | imm _ | mem _ => rfl
  | imp | acc | ind _ | rel _ => simp [Operand.mode] at h

theorem operandByte?_of_reading {i : Instr} (h : i.mnemonic ∈ readingMnemonics) (s : State) :
    s.operandByte? i.operand = some (s.byteOf i.operand) :=
  State.operandByte?_eq_byteOf (Mnemonic.modes_of_reading _ h _ i.mode_mem_modes) s

/-! ### The compares -/

theorem State.compare_flag_C_iff (r m : Byte) (s : State) : (s.compare r m).flag .C = true ↔ m.toNat ≤ r.toNat := by
  rw [State.flag_compare]
  exact decide_eq_true_iff

theorem State.compare_flag_Z_iff (r m : Byte) (s : State) : (s.compare r m).flag .Z = true ↔ r = m := by
  rw [State.flag_compare]
  exact decide_eq_true_iff.trans sub_eq_zero

theorem State.compare_flag_N_iff (r m : Byte) (s : State) :
    (s.compare r m).flag .N = true ↔ 128 ≤ (r.toNat + 256 - m.toNat) % 256 := by
  have hm := m.isLt
  rw [State.flag_compare, if_pos rfl, BitVec.msb_eq_true_iff_two_mul_ge, BitVec.toNat_sub]
  omega

theorem State.compare_flagsKeptBut (r m : Byte) (s : State) : FlagsKeptBut [.C, .Z, .N] s (s.compare r m) := by
  intro f hf
  obtain ⟨hC, hZ, hN⟩ : f ≠ .C ∧ f ≠ .Z ∧ f ≠ .N := by simpa using hf
  rw [State.flag_compare, if_neg hN, if_neg hZ, if_neg hC]

/-- The register that a compare compares: A for CMP, X for CPX, Y for CPY (R185 to R187). -/
def State.comparedRegister (s : State) : Mnemonic → Byte
  | .CMP => s.a
  | .CPX => s.x
  | _ => s.y

theorem exec_of_compare {i : Instr} (h : i.mnemonic ∈ [.CMP, .CPX, .CPY]) (s : State) :
    exec i s = .next (s.compare (s.comparedRegister i.mnemonic) (s.byteOf i.operand)) := by
  rw [exec_eq_effect]
  generalize i.mnemonic = m at h ⊢
  fin_cases h <;> rfl

end Sys2Proof.Machine

namespace Sys2Proof.Proofs

open Sys2Proof.Machine Sys2Proof.Claims

/-- Settles O18: bit 7 is the sign bit that `addCore_vout_iff_signs` speaks of, and the signed sum is
`addCore_vout_iff_signedOverflow`. -/
theorem adderGivesSumCarryAndOverflow : Obligations.AdderGivesSumCarryAndOverflow :=
  fun a m c => ⟨addCore_r_toNat a m c, addCore_cout_iff a m c, by
    simpa only [BitVec.msb_eq_getLsbD_last] using addCore_vout_iff_signs a m c,
    addCore_vout_iff_signedOverflow a m c⟩

/-- Settles O21: every compare is `State.compare` of its register and its data byte, whose flags are arithmetic. -/
theorem comparesSetCarryZeroNegative : Obligations.ComparesSetCarryZeroNegative := by
  intro i s h
  have hbyte := operandByte?_of_reading (compares_subset_readingMnemonics h) s
  refine ⟨s.byteOf i.operand, s.comparedRegister i.mnemonic, hbyte, fun hm => by rw [hm]; rfl, fun hm => by rw [hm]; rfl,
    fun hm => by rw [hm]; rfl, s.compare (s.comparedRegister i.mnemonic) (s.byteOf i.operand), exec_of_compare h s, ?_⟩
  exact ⟨State.compare_flag_C_iff _ _ s, State.compare_flag_Z_iff _ _ s, State.compare_flag_N_iff _ _ s,
    State.compare_flagsKeptBut _ _ s, fun _ => rfl, rfl⟩

end Sys2Proof.Proofs
end

section
/-! What a handler writes: the fields and flags that each mnemonic leaves, and what a step owes to its handler
(spec/40_fetch_execute_addressing.md R100, R103, spec/10_state.md R21, R22, R28). -/

namespace Sys2Proof.Machine

open Sys2Proof.Claims

/-! ### The shift family and the branches on their operands -/

@[simp] theorem State.shiftOf_acc (f : Byte → Bool → ShiftOut) (s : State) : s.shiftOf f .acc = s.shiftA f := rfl

@[simp] theorem State.shiftOf_x (f : Byte → Bool → ShiftOut) (o : Operand) (s : State) : (s.shiftOf f o).x = s.x := by
  cases o <;> rfl

@[simp] theorem State.shiftOf_y (f : Byte → Bool → ShiftOut) (o : Operand) (s : State) : (s.shiftOf f o).y = s.y := by
  cases o <;> rfl

@[simp] theorem State.shiftOf_sp (f : Byte → Bool → ShiftOut) (o : Operand) (s : State) :
    (s.shiftOf f o).sp = s.sp := by
  cases o <;> rfl

@[simp] theorem State.shiftOf_run (f : Byte → Bool → ShiftOut) (o : Operand) (s : State) :
    (s.shiftOf f o).run = s.run := by
  cases o <;> rfl

@[simp] theorem State.shiftOf_pcw (f : Byte → Bool → ShiftOut) (o : Operand) (s : State) :
    (s.shiftOf f o).pcw = s.pcw := by
  cases o <;> rfl

/-- The shift family keeps every flag but C, Z and N, whatever it shifts (R200). -/
theorem State.flag_shiftOf {f : Flag} (hC : f ≠ .C) (hZ : f ≠ .Z) (hN : f ≠ .N) (g : Byte → Bool → ShiftOut)
    (o : Operand) (s : State) : (s.shiftOf g o).flag f = s.flag f := by
  cases o <;> simp [State.shiftOf, hC, hZ, hN]

@[simp] theorem State.branchOf_true (o : Operand) (s : State) : s.branchOf true o = s.relocate (s.targetOf o) := rfl

@[simp] theorem State.branchOf_a (c : Bool) (o : Operand) (s : State) : (s.branchOf c o).a = s.a := by
  cases c <;> rfl

@[simp] theorem State.branchOf_x (c : Bool) (o : Operand) (s : State) : (s.branchOf c o).x = s.x := by
  cases c <;> rfl

@[simp] theorem State.branchOf_y (c : Bool) (o : Operand) (s : State) : (s.branchOf c o).y = s.y := by
  cases c <;> rfl

@[simp] theorem State.branchOf_sp (c : Bool) (o : Operand) (s : State) : (s.branchOf c o).sp = s.sp := by
  cases c <;> rfl

@[simp] theorem State.branchOf_mem (c : Bool) (o : Operand) (s : State) : (s.branchOf c o).mem = s.mem := by
  cases c <;> rfl

@[simp] theorem State.branchOf_run (c : Bool) (o : Operand) (s : State) : (s.branchOf c o).run = s.run := by
  cases c <;> rfl

@[simp] theorem State.flag_branchOf (f : Flag) (c : Bool) (o : Operand) (s : State) :
    (s.branchOf c o).flag f = s.flag f := by
  cases c <;> rfl

/-- R210: a branch relocates exactly when its condition holds. -/
theorem State.branchOf_pcw {s : State} (h : s.pcw = false) (c : Bool) (o : Operand) : (s.branchOf c o).pcw = c := by
  cases c
  · exact h
  · rfl

/-- The shift family has the accumulator or a memory operand, nothing else (R85, R200). -/
theorem operand_of_shift {i : Instr} (h : i.mnemonic ∈ shifts) :
    i.operand = .acc ∨ i.operand = .mem (memOf i.operand) := by
  have hmodes : ∀ m ∈ shifts, ∀ k ∈ m.modes, k ∉ [Mode.IMP, .IMM, .IND, .REL] := by decide
  have hmode : i.operand.mode ∉ [Mode.IMP, .IMM, .IND, .REL] := hmodes _ h _ i.mode_mem_modes
  cases ho : i.operand with
  | acc => exact .inl rfl
  | mem m => exact .inr rfl
  | imp | imm _ | ind _ | rel _ => simp [ho, Operand.mode] at hmode

theorem mode_mem_ne_acc (m : MemOperand) : (Operand.mem m).mode ≠ .ACC := by
  cases m <;> simp [Operand.mode]

/-! ### What each mnemonic leaves -/

/-- R21: the mnemonics that write A, the shift family apart, which does so in accumulator mode. -/
theorem State.effect_a {m : Mnemonic} (h : m ∉ [.LDA, .TXA, .TYA, .PLA, .AND, .ORA, .EOR, .ADC, .SBC]) {o : Operand}
    (hshift : m ∈ shifts → o = .mem (memOf o)) (s : State) : (s.effect o m).a = s.a := by
  by_cases hm : m ∈ shifts
  · rw [hshift hm]
    fin_cases hm <;> rfl
  · revert h hm
    cases m <;> simp [State.effect, shifts]

/-- R21: the mnemonics that write X. -/
theorem State.effect_x {m : Mnemonic} (h : m ∉ [.LDX, .TAX, .TSX, .INX, .DEX]) (o : Operand) (s : State) :
    (s.effect o m).x = s.x := by
  revert h
  cases m <;> simp [State.effect]

/-- R21: the mnemonics that write Y. -/
theorem State.effect_y {m : Mnemonic} (h : m ∉ [.LDY, .TAY, .INY, .DEY]) (o : Operand) (s : State) :
    (s.effect o m).y = s.y := by
  revert h
  cases m <;> simp [State.effect]

/-- R22: the mnemonics that write SP. -/
theorem State.effect_sp {m : Mnemonic} (h : m ∉ [.TXS, .PHA, .PHP, .PLA, .PLP, .JSR, .RTS, .RTI]) (o : Operand)
    (s : State) : (s.effect o m).sp = s.sp := by
  revert h
  cases m <;> simp [State.effect]

/-- R60: the mnemonics that store, the shift family apart, which does so outside accumulator mode. -/
theorem State.effect_mem {m : Mnemonic} (h : m ∉ [.STA, .STX, .STY, .INC, .DEC, .PHA, .PHP, .JSR]) {o : Operand}
    (hshift : m ∈ shifts → o = .acc) (s : State) : (s.effect o m).mem = s.mem := by
  by_cases hm : m ∈ shifts
  · rw [hshift hm]
    fin_cases hm <;> rfl
  · revert h hm
    cases m <;> simp [State.effect, shifts]

/-- R106: BRK halts, and no other handler touches the run state. -/
theorem State.effect_run (s : State) (o : Operand) (m : Mnemonic) :
    (s.effect o m).run = if m = .BRK then .haltedBrk else s.run := by
  cases m <;> simp [State.effect]

/-- R105: the handlers that relocate are the jumps, call and returns, and a branch whose condition holds. -/
theorem State.effect_pcw_iff {s : State} (h : s.pcw = false) (o : Operand) (m : Mnemonic) :
    (s.effect o m).pcw = true ↔ m ∈ [.JMP, .JSR, .RTS, .RTI] ∨ branchCondition s m = some true := by
  cases hb : branchCondition s m with
  | some c =>
    have hm : m ∉ [.JMP, .JSR, .RTS, .RTI] := by
      intro hm
      fin_cases hm <;> cases hb
    rw [State.effect_of_branchCondition hb, State.branchOf_pcw h]
    simp [hm]
  | none => cases m <;> simp_all [State.effect, branchCondition]

@[simp] theorem State.flag_returnFromInterrupt (s : State) (f : Flag) :
    s.returnFromInterrupt.flag f = (returnedStatus s.top8).getLsbD f.bit := rfl

/-- PLP and RTI write every flag, bit 5 to 1 (R233, R244); the table of R28 names them for each flag but bit 5. -/
theorem State.flag_effect_of_pull {f : Flag} {m : Mnemonic} (hm : m ∈ [.PLP, .RTI]) (h : m ∉ flagWriters f) {s : State}
    (hU : s.flag .U = true) (o : Operand) : (s.effect o m).flag f = s.flag f := by
  obtain rfl : f = .U := by
    revert h
    fin_cases hm <;> cases f <;> decide
  rw [hU]
  fin_cases hm
  · exact getLsbD_pulledStatus s.top8 .U
  · exact getLsbD_returnedStatus s.top8 .U

/-- R28: a handler writes a flag only if the table of R28 names its mnemonic for it. -/
theorem State.flag_effect {f : Flag} {m : Mnemonic} (h : m ∉ flagWriters f) {s : State} (hU : s.flag .U = true)
    (o : Operand) : (s.effect o m).flag f = s.flag f := by
  have hne : ∀ g, m ∈ flagWriters g → f ≠ g := fun g hg hfg => h (by rwa [hfg])
  cases m with
  | PLP | RTI => exact State.flag_effect_of_pull (by decide) h hU o
  | LDA | LDX | LDY | TAX | TAY | TXA | TYA | TSX | PLA | INC | INX | INY | DEC | DEX | DEY | AND | ORA | EOR =>
    simp [State.effect, hne .Z (by decide), hne .N (by decide)]
  | CMP | CPX | CPY => simp [State.effect, hne .C (by decide), hne .Z (by decide), hne .N (by decide)]
  | ASL | LSR | ROL | ROR =>
    exact State.flag_shiftOf (hne .C (by decide)) (hne .Z (by decide)) (hne .N (by decide)) _ o s
  | ADC | SBC =>
    simp [State.effect, hne .C (by decide), hne .V (by decide), hne .Z (by decide), hne .N (by decide)]
  | BIT => simp [State.effect, hne .V (by decide), hne .Z (by decide), hne .N (by decide)]
  | CLC | SEC => simp [State.effect, hne .C (by decide)]
  | CLI | SEI => simp [State.effect, hne .I (by decide)]
  | CLD | SED => simp [State.effect, hne .D (by decide)]
  | CLV => simp [State.effect, hne .V (by decide)]
  | _ => simp [State.effect]

/-! ### What a step owes to its handler -/

theorem State.endStep_of_running {u : State} (h : u.run = .running) (cfg : Config) (op : Byte) (i : Instr) :
    u.endStep cfg op i = ((u.advance i).addCycles cfg op).setPcw false := by
  rw [State.endStep, if_pos h]

theorem State.endStep_of_halted {u : State} (h : u.run ≠ .running) (cfg : Config) (op : Byte) (i : Instr) :
    u.endStep cfg op i = u.setPcw false := by
  rw [State.endStep, if_neg h]

/-- The loop around the handler writes PC, the cycle total and the marker alone. -/
theorem State.endStep_eq (cfg : Config) (op : Byte) (i : Instr) (u : State) : u.endStep cfg op i =
    { u with pc := (u.endStep cfg op i).pc, cycles := (u.endStep cfg op i).cycles, pcw := false } := by
  by_cases hr : u.run = .running
  · rw [State.endStep_of_running hr, State.advance]
    split <;> rfl
  · rw [State.endStep_of_halted hr]
    rfl

/-- Whatever depends on the registers but PC, on P and on memory alone, changes in a step only if the handler of the
fetched instruction changes it. -/
theorem changed_by_handler {α : Type} (g : State → α)
    (hg : ∀ (u : State) (pc : Word) (run : RunState) (n : Nat) (b : Bool),
      g { u with pc := pc, run := run, cycles := n, pcw := b } = g u)
    {cfg : Config} {s t : State} (h : stepWith cfg s = .next t) (hne : g t ≠ g s) :
    ∃ i rest, s.fetch = .ok (i, rest) ∧ g (s.afterOpcode.effect i.operand i.mnemonic) ≠ g s.afterOpcode := by
  have hstart : g s.afterOpcode = g s := hg s _ s.run s.cycles _
  obtain ⟨_, ⟨_, _, rfl⟩ | ⟨i, rest, u, hf, hu, rfl⟩⟩ := stepWith_cases h
  · exact absurd (hg s _ _ s.cycles _) hne
  · have hend : g (u.endStep cfg s.opcodeByte i) = g u := by
      rw [State.endStep_eq]
      exact hg u _ u.run _ _
    exact ⟨i, rest, hf, by rwa [← eq_effect hu, ← hend, hstart]⟩

end Sys2Proof.Machine

namespace Sys2Proof.Proofs

open Sys2Proof.Machine Sys2Proof.Claims

/-- Settles O43: the change is the handler's, and `State.flag_effect` says which handlers can make it. -/
theorem flagsChangeOnlyByTheirWriters : Obligations.FlagsChangeOnlyByTheirWriters := by
  intro cfg s t f hU h hne
  obtain ⟨i, rest, hf, hch⟩ := changed_by_handler (fun u => u.flag f) (fun _ _ _ _ _ => rfl) h hne
  exact ⟨i, rest, hf, by_contra fun hm => hch (State.flag_effect (s := s.afterOpcode) hm hU i.operand)⟩

/-- Settles O44: the change is the handler's, and the frames of the handlers say which of them can make it. -/
theorem registersChangeOnlyByTheirWriters : Obligations.RegistersChangeOnlyByTheirWriters := by
  intro cfg s t h
  refine ⟨fun hne => ?_, fun hne => ?_, fun hne => ?_, fun hne => ?_⟩
  · obtain ⟨i, rest, hf, hch⟩ := changed_by_handler State.a (fun _ _ _ _ _ => rfl) h hne
    refine ⟨i, rest, hf, by_contra fun hno => ?_⟩
    obtain ⟨hwriter, hshift⟩ := not_or.mp hno
    refine hch (State.effect_a hwriter (fun hm => ?_) s.afterOpcode)
    exact (operand_of_shift hm).resolve_left fun hacc => hshift ⟨hm, by rw [Instr.mode, hacc]; rfl⟩
  · obtain ⟨i, rest, hf, hch⟩ := changed_by_handler State.x (fun _ _ _ _ _ => rfl) h hne
    exact ⟨i, rest, hf, by_contra fun hm => hch (State.effect_x hm i.operand s.afterOpcode)⟩
  · obtain ⟨i, rest, hf, hch⟩ := changed_by_handler State.y (fun _ _ _ _ _ => rfl) h hne
    exact ⟨i, rest, hf, by_contra fun hm => hch (State.effect_y hm i.operand s.afterOpcode)⟩
  · obtain ⟨i, rest, hf, hch⟩ := changed_by_handler State.sp (fun _ _ _ _ _ => rfl) h hne
    exact ⟨i, rest, hf, by_contra fun hm => hch (State.effect_sp hm i.operand s.afterOpcode)⟩

/-- Settles O45: the change is the handler's, and a shift whose operand is not memory stores nothing. -/
theorem memoryChangesOnlyByStoringInstructions : Obligations.MemoryChangesOnlyByStoringInstructions := by
  intro cfg s t b h hne
  obtain ⟨i, rest, hf, hch⟩ := changed_by_handler (fun u => u.memRead b) (fun _ _ _ _ _ => rfl) h hne
  refine ⟨i, rest, hf, by_contra fun hno => ?_⟩
  obtain ⟨hwriter, hshift⟩ := not_or.mp hno
  refine hch (congrArg (Memory.read b) (State.effect_mem hwriter (fun hm => ?_) _))
  refine (operand_of_shift hm).resolve_right fun hmem => hshift ⟨hm, ?_⟩
  rw [Instr.mode, hmem]
  exact mode_mem_ne_acc _

/-- Settles O41: the marker by `State.effect_pcw_iff`, PC by `State.effect_pc_of_pcw`. -/
theorem onlyControlTransfersRelocate : Obligations.OnlyControlTransfersRelocate := by
  intro i s t hs ht
  rw [eq_effect ht]
  exact ⟨State.effect_pcw_iff hs _ _, State.effect_pc_of_pcw⟩

end Sys2Proof.Proofs
end

section
/-! The flags I, D and B as inputs of a step (spec/10_state.md R28): every operation but PHP's push passes a change of
one of them through, or overwrites it. -/

namespace Sys2Proof.Machine

open Sys2Proof.Claims

/-! ### Two writes of flags -/

theorem State.setFlag_comm {f g : Flag} (h : f ≠ g) (b c : Bool) (s : State) :
    (s.setFlag f b).setFlag g c = (s.setFlag g c).setFlag f b :=
  congrArg s.setP (setBit_comm h.symm c b s.p)

/-- The second of two writes of one flag wins. -/
theorem State.setFlag_setFlag_same (f : Flag) (b c : Bool) (s : State) :
    (s.setFlag f b).setFlag f c = s.setFlag f c := by
  refine congrArg s.setP (status_ext fun g => ?_)
  simp only [State.setFlag_p, getLsbD_setBit]
  split <;> rfl

/-- Writing the value a flag has changes nothing. -/
theorem State.setFlag_flag (f : Flag) (s : State) : s.setFlag f (s.flag f) = s := by
  refine congrArg s.setP (status_ext fun g => ?_)
  rw [getLsbD_setBit]
  split
  · next h => rw [h]; rfl
  · rfl

/-! ### What reads no flag -/

section
variable (f : Flag) (b : Bool) (s : State)

@[simp] theorem State.ea_setFlag (m : MemOperand) : m.ea (s.setFlag f b) = m.ea s := by
  cases m <;> rfl

@[simp] theorem State.dataAt_setFlag (m : MemOperand) : (s.setFlag f b).dataAt m = s.dataAt m :=
  congrArg s.memRead (State.ea_setFlag f b s m)

@[simp] theorem State.byteOf_setFlag (o : Operand) : (s.setFlag f b).byteOf o = s.byteOf o := by
  cases o with
  | mem m => exact State.dataAt_setFlag f b s m
  | _ => rfl

@[simp] theorem State.targetOf_setFlag (o : Operand) : (s.setFlag f b).targetOf o = s.targetOf o := by
  cases o with
  | mem m => exact State.ea_setFlag f b s m
  | _ => rfl

theorem State.storeAt_setFlag (m : MemOperand) (v : Byte) :
    (s.setFlag f b).storeAt m v = (s.storeAt m v).setFlag f b :=
  congrArg (fun ea => (s.memWrite ea v).setFlag f b) (State.ea_setFlag f b s m)

theorem State.push8_setFlag (v : Byte) : (s.setFlag f b).push8 v = (s.push8 v).setFlag f b := rfl
theorem State.push16_setFlag (w : Word) : (s.setFlag f b).push16 w = (s.push16 w).setFlag f b := rfl
theorem State.drop8_setFlag : (s.setFlag f b).drop8 = s.drop8.setFlag f b := rfl
theorem State.drop16_setFlag : (s.setFlag f b).drop16 = s.drop16.setFlag f b := rfl
theorem State.top8_setFlag : (s.setFlag f b).top8 = s.top8 := rfl
theorem State.top16_setFlag : (s.setFlag f b).top16 = s.top16 := rfl
theorem State.setSP_setFlag (v : Byte) : (s.setFlag f b).setSP v = (s.setSP v).setFlag f b := rfl
theorem State.relocate_setFlag (w : Word) : (s.setFlag f b).relocate w = (s.relocate w).setFlag f b := rfl
theorem State.setP_setFlag (v : Byte) : (s.setFlag f b).setP v = s.setP v := rfl
theorem State.returnFromInterrupt_setFlag : (s.setFlag f b).returnFromInterrupt = s.returnFromInterrupt := rfl
theorem State.halt_setFlag : (s.setFlag f b).halt = s.halt.setFlag f b := rfl

theorem State.branchOf_setFlag (c : Bool) (o : Operand) :
    (s.setFlag f b).branchOf c o = (s.branchOf c o).setFlag f b := by
  cases c
  · rfl
  · rw [State.branchOf_true, State.branchOf_true, State.targetOf_setFlag]
    rfl

end

/-- PHP pushes B as 1 whatever P holds (R231), so B is no input of it. -/
theorem pushedStatus_setBit_B (b : Bool) (p : Byte) : pushedStatus (setBit .B b p) = pushedStatus p := by
  refine status_ext fun f => ?_
  rw [getLsbD_pushedStatus, getLsbD_pushedStatus, getLsbD_setBit]
  by_cases hB : f = .B <;> simp [hB]

/-! ### What reads and writes C, Z, N and V alone -/

section
variable {f : Flag} (hf : f ∈ [.I, .D, .B]) (b : Bool) (s : State)
include hf

theorem ne_of_mem_IDB {g : Flag} (hg : g ∈ [.C, .Z, .N, .V]) : f ≠ g := by
  fin_cases hf <;> fin_cases hg <;> decide

theorem State.flag_setFlag_IDB {g : Flag} (hg : g ∈ [.C, .Z, .N, .V]) : (s.setFlag f b).flag g = s.flag g := by
  rw [State.flag_setFlag, if_neg (ne_of_mem_IDB hf hg).symm]

theorem State.setFlag_setFlag_IDB {g : Flag} (hg : g ∈ [.C, .Z, .N, .V]) (c : Bool) :
    (s.setFlag f b).setFlag g c = (s.setFlag g c).setFlag f b :=
  State.setFlag_comm (ne_of_mem_IDB hf hg) b c s

theorem State.setZN_setFlag (v : Byte) : (s.setFlag f b).setZN v = (s.setZN v).setFlag f b := by
  rw [State.setZN, State.setFlag_setFlag_IDB hf _ _ (by decide), State.setFlag_setFlag_IDB hf _ _ (by decide)]
  rfl

theorem State.loadA_setFlag (v : Byte) : (s.setFlag f b).loadA v = (s.loadA v).setFlag f b :=
  State.setZN_setFlag hf b (s.setA v) v

theorem State.loadX_setFlag (v : Byte) : (s.setFlag f b).loadX v = (s.loadX v).setFlag f b :=
  State.setZN_setFlag hf b (s.setX v) v

theorem State.loadY_setFlag (v : Byte) : (s.setFlag f b).loadY v = (s.loadY v).setFlag f b :=
  State.setZN_setFlag hf b (s.setY v) v

theorem State.compare_setFlag (r m : Byte) : (s.setFlag f b).compare r m = (s.compare r m).setFlag f b := by
  rw [State.compare, State.setFlag_setFlag_IDB hf _ _ (by decide), State.setZN_setFlag hf]
  rfl

theorem State.bitTest_setFlag (m : Byte) : (s.setFlag f b).bitTest m = (s.bitTest m).setFlag f b := by
  rw [State.bitTest, State.setFlag_setFlag_IDB hf _ _ (by decide), State.setFlag_setFlag_IDB hf _ _ (by decide),
    State.setFlag_setFlag_IDB hf _ _ (by decide)]
  rfl

/-- R182, D10: D is neither read nor written by the adder. -/
theorem State.addA_setFlag (m : Byte) : (s.setFlag f b).addA m = (s.addA m).setFlag f b := by
  simp only [State.addA, State.flag_setFlag_IDB hf b s (g := .C) (by decide)]
  rw [State.setFlag_setFlag_IDB hf _ _ (by decide), State.setFlag_setFlag_IDB hf _ _ (by decide)]
  exact State.loadA_setFlag hf b _ _

theorem State.modifyAt_setFlag (g : Byte → Byte) (m : MemOperand) :
    (s.setFlag f b).modifyAt g m = (s.modifyAt g m).setFlag f b := by
  simp only [State.modifyAt, State.dataAt_setFlag, State.storeAt_setFlag, State.setZN_setFlag hf]

theorem State.shiftOf_setFlag (g : Byte → Bool → ShiftOut) (o : Operand) :
    (s.setFlag f b).shiftOf g o = (s.shiftOf g o).setFlag f b := by
  have hC := State.flag_setFlag_IDB hf b s (g := .C) (by decide)
  cases o with
  | mem m =>
    simp only [State.shiftOf, State.shiftAt, hC, State.dataAt_setFlag, State.storeAt_setFlag]
    rw [State.setFlag_setFlag_IDB hf _ _ (by decide), State.setZN_setFlag hf]
  | _ =>
    simp only [State.shiftOf, State.shiftA, hC]
    exact (congrArg (State.setZN _) (State.setFlag_setFlag_IDB hf b (s.setA _) (by decide : Flag.C ∈ _) _)).trans
      (State.setZN_setFlag hf b _ _)

/-! ### The handlers and the step -/

/-- A handler that can write the flag does not read it: it writes the same value whatever was there. -/
theorem State.effect_setFlag_of_writer {m : Mnemonic} (h : m ∈ flagWriters f) (o : Operand) :
    (s.setFlag f b).effect o m = s.effect o m := by
  fin_cases hf <;> fin_cases h <;>
    simp only [State.effect, State.setFlag_setFlag_same, State.drop8_setFlag, State.top8_setFlag, State.setP_setFlag,
      State.returnFromInterrupt_setFlag]

/-- A handler that cannot write the flag passes a change of it through, unless it is PHP and the flag is I or D. -/
theorem State.effect_setFlag_of_not_writer {m : Mnemonic} (h : m ∉ flagWriters f) (hphp : f = .B ∨ m ≠ .PHP)
    (o : Operand) : (s.setFlag f b).effect o m = (s.effect o m).setFlag f b := by
  cases m with
  | PHP =>
    obtain rfl := hphp.resolve_right (by decide)
    rw [State.effect, State.setFlag_p, pushedStatus_setBit_B]
    rfl
  | PLP | RTI => fin_cases hf <;> exact absurd (by decide) h
  | CLC | SEC | CLI | SEI | CLD | SED | CLV =>
    exact State.setFlag_comm (fun hfg => h (by rw [hfg]; decide)) b _ s
  | BCC | BCS | BEQ | BNE | BMI | BPL | BVC | BVS =>
    rw [State.effect, State.flag_setFlag_IDB hf b s (by decide)]
    exact State.branchOf_setFlag f b s _ o
  | _ =>
    simp only [State.effect, State.byteOf_setFlag, State.targetOf_setFlag, State.setFlag_a, State.setFlag_x,
      State.setFlag_y, State.setFlag_sp, State.setFlag_pc, State.storeAt_setFlag, State.push8_setFlag,
      State.push16_setFlag, State.drop8_setFlag, State.drop16_setFlag, State.top8_setFlag, State.top16_setFlag,
      State.setSP_setFlag, State.relocate_setFlag, State.halt_setFlag, State.loadA_setFlag hf, State.loadX_setFlag hf,
      State.loadY_setFlag hf, State.compare_setFlag hf, State.bitTest_setFlag hf, State.addA_setFlag hf,
      State.modifyAt_setFlag hf, State.shiftOf_setFlag hf]

/-- From states that differ in one of I, D and B, a handler leads to states that differ at most in that flag. -/
theorem State.effect_setFlag (o : Operand) {m : Mnemonic} (hphp : f = .B ∨ m ≠ .PHP) :
    ∃ c, (s.setFlag f b).effect o m = (s.effect o m).setFlag f c := by
  by_cases h : m ∈ flagWriters f
  · refine ⟨(s.effect o m).flag f, ?_⟩
    rw [State.effect_setFlag_of_writer hf b s h, State.setFlag_flag]
  · exact ⟨b, State.effect_setFlag_of_not_writer hf b s h hphp o⟩

end

/-- The loop around the handler reads no flag. -/
theorem State.endStep_setFlag (cfg : Config) (op : Byte) (i : Instr) (f : Flag) (b : Bool) (u : State) :
    (u.setFlag f b).endStep cfg op i = (u.endStep cfg op i).setFlag f b := by
  by_cases hr : u.run = .running
  · rw [State.endStep_of_running hr, State.endStep_of_running (u := u.setFlag f b) hr]
    cases hw : u.pcw <;> simp only [State.advance, State.setFlag_pcw, hw] <;> rfl
  · rw [State.endStep_of_halted hr, State.endStep_of_halted (u := u.setFlag f b) hr]
    rfl

end Sys2Proof.Machine

namespace Sys2Proof.Proofs

open Sys2Proof.Machine Sys2Proof.Claims

/-- Settles O46: fetch, the exception and the loop read no flag, and the handler is as `State.effect_setFlag` says. -/
theorem interruptDecimalBreakFlagsHaveNoEffect : Obligations.InterruptDecimalBreakFlagsHaveNoEffect := by
  intro cfg s t f b hf hphp h
  obtain ⟨hr, ⟨e, he, rfl⟩ | ⟨i, rest, u, hi, hu, rfl⟩⟩ := stepWith_cases h
  · exact ⟨b, stepWith_of_error (s := s.setFlag f b) hr he⟩
  · obtain ⟨c, hc⟩ := State.effect_setFlag hf b s.afterOpcode i.operand (hphp i rest hi)
    have hexec : exec i (s.setFlag f b).afterOpcode = .next (u.setFlag f c) := by
      rw [exec_eq_effect, eq_effect hu]
      exact congrArg Host.Outcome.next hc
    refine ⟨c, ?_⟩
    rw [stepWith_of_fetch (s := s.setFlag f b) hr hi hexec, State.endStep_setFlag]
    rfl

end Sys2Proof.Proofs
end

section
/-! The invariant of the machine's states and its runs (spec/10_state.md R27, R32, R35,
spec/40_fetch_execute_addressing.md R108, R109, R125): what reset establishes, every step keeps, and a run with an
admitted observer ends in. -/

namespace Sys2Proof.Machine

open Sys2Proof.Claims

/-! ### Steps keep the invariant -/

/-- R50, R60: a handler reaches memory through byte writes of the bus alone, so what they keep, it keeps. -/
theorem State.effect_mem_of_write {Q : Memory → Prop} (hQ : ∀ m a v, Q m → Q (m.write a v)) {s : State} (h : Q s.mem)
    (o : Operand) (m : Mnemonic) : Q (s.effect o m).mem := by
  cases m with
  | STA | STX | STY | INC | DEC | PHA | PHP => exact hQ _ _ _ h
  | JSR => exact hQ _ _ _ (hQ _ _ _ h)
  | ASL | LSR | ROL | ROR =>
    cases o with
    | mem m => exact hQ _ _ _ h
    | _ => exact h
  | _ => rwa [State.effect_mem (by decide) (fun hm => absurd hm (by decide))]

/-- Nothing but the marker of the invariant depends on PC, the run state and the cycle total. -/
theorem State.Inv.endStep {u : State} (hwf : u.mem.wf = true) (hclear : u.mem.hiddenClear = true)
    (hU : u.flag .U = true) (cfg : Config) (op : Byte) (i : Instr) : (u.endStep cfg op i).Inv := by
  rw [State.endStep_eq]
  exact ⟨hwf, hclear, hU, rfl⟩

theorem stepWith_keeps_inv {cfg : Config} {s t : State} (hs : s.Inv) (h : stepWith cfg s = .next t) : t.Inv := by
  obtain ⟨_, ⟨e, _, rfl⟩ | ⟨i, rest, u, _, hu, rfl⟩⟩ := stepWith_cases h
  · exact ⟨hs.memWf, hs.hiddenClear, hs.bit5, rfl⟩
  · rw [eq_effect hu]
    refine State.Inv.endStep ?_ ?_ ?_ cfg _ i
    · exact State.effect_mem_of_write (Q := fun m => m.wf = true) (s := s.afterOpcode)
        (fun _ a v hm => Memory.write_wf hm a v) hs.memWf _ _
    · exact State.effect_mem_of_write (Q := fun m => m.hiddenClear = true) (s := s.afterOpcode)
        (fun _ a v hm => Memory.write_hiddenClear hm a v) hs.hiddenClear _ _
    · rw [State.flag_effect (s := s.afterOpcode) List.not_mem_nil hs.bit5]
      exact hs.bit5

/-- R261, R33: a running machine always has a next state. -/
theorem stepWith_next_of_running (cfg : Config) {s : State} (hr : s.run = .running) :
    ∃ t, stepWith cfg s = .next t := by
  cases hf : s.fetch with
  | error e => exact ⟨_, stepWith_of_error hr hf⟩
  | ok r =>
    obtain ⟨i, rest⟩ := r
    exact ⟨_, stepWith_of_fetch hr hf (exec_eq_effect i _)⟩

/-! ### Reset establishes it -/

theorem resetBus_inv {cfg : Config} (hcfg : cfg.wf = true) {m : Memory} (hwf : m.wf = true)
    (hclear : m.hiddenClear = true) : (resetBus cfg m).Inv :=
  ⟨hwf, hclear, hcfg, rfl⟩

/-! ### Runs -/

theorem State.Inv.setCycles {s : State} (h : s.Inv) (n : Nat) : (s.setCycles n).Inv :=
  ⟨h.memWf, h.hiddenClear, h.bit5, h.pcwClear⟩

/-- R109: an admitted observer keeps the invariant; it cannot reach the marker. -/
theorem State.Inv.observed {s : State} (h : s.Inv) {obs : Observer} (hobs : obs.admitted) (calls : Nat) :
    (s.observed obs calls).Inv := by
  obtain ⟨hU, hwf, hclear⟩ := hobs calls s.view h.bit5 h.memWf h.hiddenClear
  exact ⟨hwf, hclear, hU, h.pcwClear⟩

section
variable {cfg : Config} {budget : Option Nat} {obs : Observer}

/-- The loop goes on only after a step that neither halted nor reached the budget (R125). -/
theorem runLoop_succ {s t : State} (h : stepWith cfg s = .next t) (bound retired calls : Nat) :
    runLoop cfg budget obs (bound + 1) s retired calls =
      if t.run ≠ .running then ⟨t, retired, calls, .halted⟩
      else if budgetReached budget t.cycles then ⟨t, retired + 1, calls, .budget⟩
      else runLoop cfg budget obs bound (t.observed obs calls) (retired + 1) (calls + 1) := by
  rw [runLoop, h]

theorem runLoop_inv (hobs : obs.admitted) {s : State} (hr : s.run = .running) (h : s.Inv) (bound retired calls : Nat) :
    (runLoop cfg budget obs bound s retired calls).state.Inv := by
  induction bound generalizing s retired calls with
  | zero => exact h
  | succ bound ih =>
    obtain ⟨t, ht⟩ := stepWith_next_of_running cfg hr
    have htinv := stepWith_keeps_inv h ht
    rw [runLoop_succ ht]
    split_ifs with hhalt hbudget
    · exact htinv
    · exact htinv
    · exact ih (s := t.observed obs calls) (not_not.mp hhalt) (htinv.observed hobs calls) _ _

theorem exists_of_budgetReached {n : Nat} (h : budgetReached budget n = true) : ∃ b, budget = some b ∧ b ≤ n := by
  cases budget with
  | none => cases h
  | some b => exact ⟨b, rfl, of_decide_eq_true h⟩

/-- R108, R109: each turn of the loop that goes on retires one instruction and calls the observer once; the turn that
reaches the budget retires one more, the turn that halts none. -/
theorem runLoop_counts {s : State} (hr : s.run = .running) (bound n : Nat) {o : RunOut}
    (ho : runLoop cfg budget obs bound s n n = o) :
    (o.why = .halted → o.observed = o.retired ∧ o.state.run ≠ .running) ∧
      (o.why = .budget → o.retired = o.observed + 1 ∧ o.state.run = .running ∧
        ∃ b, budget = some b ∧ b ≤ o.state.cycles) := by
  induction bound generalizing s n with
  | zero =>
    subst ho
    exact ⟨nofun, nofun⟩
  | succ bound ih =>
    obtain ⟨t, ht⟩ := stepWith_next_of_running cfg hr
    rw [runLoop_succ ht] at ho
    split_ifs at ho with hhalt hbudget
    · subst ho
      exact ⟨fun _ => ⟨rfl, hhalt⟩, nofun⟩
    · subst ho
      exact ⟨nofun, fun _ => ⟨rfl, not_not.mp hhalt, exists_of_budgetReached hbudget⟩⟩
    · exact ih (s := t.observed obs n) (not_not.mp hhalt) _ ho

theorem stepsOf_of_halted {s : State} (h : s.run ≠ .running) (n : Nat) : stepsOf cfg n s = s := by
  cases n with
  | zero => rfl
  | succ n =>
    cases hr : s.run with
    | running => exact absurd hr h
    | haltedBrk => rw [stepsOf, stepWith_haltedBrk hr]
    | haltedFault op addr => rw [stepsOf, stepWith_haltedFault hr]

/-- R109: "With the default observer (identity) the loop is just repeated Step", and a halted state stays. -/
theorem runLoop_identity {s : State} (hr : s.run = .running) (bound retired calls : Nat) :
    (runLoop cfg none identityObserver bound s retired calls).state = stepsOf cfg bound s := by
  induction bound generalizing s retired calls with
  | zero => rfl
  | succ bound ih =>
    obtain ⟨t, ht⟩ := stepWith_next_of_running cfg hr
    have hsteps : stepsOf cfg (bound + 1) s = stepsOf cfg bound t := by rw [stepsOf, ht]
    rw [runLoop_succ ht, hsteps]
    split_ifs with hhalt hbudget
    · exact (stepsOf_of_halted hhalt bound).symm
    · cases hbudget
    · exact ih (s := t) (not_not.mp hhalt) _ _

end

theorem budgetWf_iff (budget : Option Nat) : budgetWf budget = true ↔ budget ≠ some 0 := by
  cases budget with
  | none => simp [budgetWf]
  | some b => simp [budgetWf, Nat.one_le_iff_ne_zero]

theorem runAdmitted_of_running {s : State} (h : s.run = .running) (cfg : Config) (budget : Option Nat) (obs : Observer)
    (bound : Nat) : runAdmitted cfg budget obs bound s = runLoop cfg budget obs bound (s.setCycles 0) 0 0 :=
  if_pos h

theorem runAdmitted_of_halted {s : State} (h : s.run ≠ .running) (cfg : Config) (budget : Option Nat) (obs : Observer)
    (bound : Nat) : runAdmitted cfg budget obs bound s = ⟨s, 0, 0, .halted⟩ :=
  if_neg h

end Sys2Proof.Machine

namespace Sys2Proof.Proofs

open Sys2Proof.Machine Sys2Proof.Claims

/-- Settles O47: a handler reaches memory through the bus, bit 5 has no writer, the loop clears the marker. -/
theorem stepsKeepTheInvariant : Obligations.StepsKeepTheInvariant :=
  fun _ _ _ => stepWith_keeps_inv

/-- Settles O48: reset keeps memory and takes P from the parameters; `State.reset` is such a reset. -/
theorem resetEstablishesTheInvariant : Obligations.ResetEstablishesTheInvariant := by
  refine ⟨?_, fun cfg s hcfg hwf hclear => resetBus_inv hcfg hwf hclear⟩
  rw [State.reset_eq_resetBus]
  exact resetBus_inv (by decide) rfl rfl

/-- Settles O56: by induction on the bound, every step and every admitted observer keeping the invariant. -/
theorem runsKeepTheInvariant : Obligations.RunsKeepTheInvariant := by
  intro cfg budget obs bound s o hobs hs ho
  obtain ⟨_, rfl⟩ := runInvocation_eq_some.mp ho
  by_cases hr : s.run = .running
  · rw [runAdmitted_of_running hr]
    exact runLoop_inv (s := s.setCycles 0) hobs hr (hs.setCycles 0) bound 0 0
  · rw [runAdmitted_of_halted hr]
    exact hs

/-- Settles O54: a run exists for the admitted budgets; the loop's counts are `runLoop_counts`. -/
theorem runCountsObserverCalls : Obligations.RunCountsObserverCalls := by
  intro cfg budget obs bound s
  refine ⟨?_, fun o ho => ?_⟩
  · rw [runInvocation, ite_eq_right_iff, budgetWf_iff]
    simp
  · obtain ⟨_, rfl⟩ := runInvocation_eq_some.mp ho
    by_cases hr : s.run = .running
    · obtain ⟨hhalted, hbudget⟩ := runLoop_counts (s := s.setCycles 0) hr bound 0
        (runAdmitted_of_running hr cfg budget obs bound).symm
      exact ⟨hhalted, hbudget, fun h => absurd hr h⟩
    · rw [runAdmitted_of_halted hr]
      exact ⟨fun _ => ⟨rfl, hr⟩, nofun, fun _ => rfl⟩

/-- Settles O55: no budget is an admitted one, and the loop with the identity observer is `runLoop_identity`. -/
theorem runIsRepeatedStep : Obligations.RunIsRepeatedStep := fun cfg bound s hr =>
  ⟨_, rfl, (congrArg RunOut.state (runAdmitted_of_running hr cfg none identityObserver bound)).trans
    (runLoop_identity (s := s.setCycles 0) hr bound 0 0)⟩

end Sys2Proof.Proofs
end

section
/-! The OpcodeTable, the encoder and the decoder (spec/30_encoding.md R80 to R90): every instruction has its row, every
row its instruction, and decoding and encoding are inverse. -/

namespace Sys2Proof

open Laws

/-! ### The table's rows -/

/-- R84, R85: the table's row of each instruction. -/
theorem tableRow : ∀ i : Instr, TableRow.Statement i
  | .ldaImm d => TableRow.ldaImm d | .ldaZp d => TableRow.ldaZp d | .ldaZpx d => TableRow.ldaZpx d
  | .ldaAbs d => TableRow.ldaAbs d | .ldaAbx d => TableRow.ldaAbx d | .ldaAby d => TableRow.ldaAby d
  | .ldaIzx d => TableRow.ldaIzx d | .ldaIzy d => TableRow.ldaIzy d | .ldxImm d => TableRow.ldxImm d
  | .ldxZp d => TableRow.ldxZp d | .ldxZpy d => TableRow.ldxZpy d | .ldxAbs d => TableRow.ldxAbs d
  | .ldxAby d => TableRow.ldxAby d | .ldyImm d => TableRow.ldyImm d | .ldyZp d => TableRow.ldyZp d
  | .ldyZpx d => TableRow.ldyZpx d | .ldyAbs d => TableRow.ldyAbs d | .ldyAbx d => TableRow.ldyAbx d
  | .staZp d => TableRow.staZp d | .staZpx d => TableRow.staZpx d | .staAbs d => TableRow.staAbs d
  | .staAbx d => TableRow.staAbx d | .staAby d => TableRow.staAby d | .staIzx d => TableRow.staIzx d
  | .staIzy d => TableRow.staIzy d | .stxZp d => TableRow.stxZp d | .stxZpy d => TableRow.stxZpy d
  | .stxAbs d => TableRow.stxAbs d | .styZp d => TableRow.styZp d | .styZpx d => TableRow.styZpx d
  | .styAbs d => TableRow.styAbs d | .tax => TableRow.tax | .tay => TableRow.tay | .txa => TableRow.txa
  | .tya => TableRow.tya | .tsx => TableRow.tsx | .txs => TableRow.txs | .incZp d => TableRow.incZp d
  | .incZpx d => TableRow.incZpx d | .incAbs d => TableRow.incAbs d | .incAbx d => TableRow.incAbx d
  | .inx => TableRow.inx | .iny => TableRow.iny | .decZp d => TableRow.decZp d | .decZpx d => TableRow.decZpx d
  | .decAbs d => TableRow.decAbs d | .decAbx d => TableRow.decAbx d | .dex => TableRow.dex | .dey => TableRow.dey
  | .andImm d => TableRow.andImm d | .andZp d => TableRow.andZp d | .andZpx d => TableRow.andZpx d
  | .andAbs d => TableRow.andAbs d | .andAbx d => TableRow.andAbx d | .andAby d => TableRow.andAby d
  | .andIzx d => TableRow.andIzx d | .andIzy d => TableRow.andIzy d | .oraImm d => TableRow.oraImm d
  | .oraZp d => TableRow.oraZp d | .oraZpx d => TableRow.oraZpx d | .oraAbs d => TableRow.oraAbs d
  | .oraAbx d => TableRow.oraAbx d | .oraAby d => TableRow.oraAby d | .oraIzx d => TableRow.oraIzx d
  | .oraIzy d => TableRow.oraIzy d | .eorImm d => TableRow.eorImm d | .eorZp d => TableRow.eorZp d
  | .eorZpx d => TableRow.eorZpx d | .eorAbs d => TableRow.eorAbs d | .eorAbx d => TableRow.eorAbx d
  | .eorAby d => TableRow.eorAby d | .eorIzx d => TableRow.eorIzx d | .eorIzy d => TableRow.eorIzy d
  | .bitZp d => TableRow.bitZp d | .bitAbs d => TableRow.bitAbs d | .adcImm d => TableRow.adcImm d
  | .adcZp d => TableRow.adcZp d | .adcZpx d => TableRow.adcZpx d | .adcAbs d => TableRow.adcAbs d
  | .adcAbx d => TableRow.adcAbx d | .adcAby d => TableRow.adcAby d | .adcIzx d => TableRow.adcIzx d
  | .adcIzy d => TableRow.adcIzy d | .sbcImm d => TableRow.sbcImm d | .sbcZp d => TableRow.sbcZp d
  | .sbcZpx d => TableRow.sbcZpx d | .sbcAbs d => TableRow.sbcAbs d | .sbcAbx d => TableRow.sbcAbx d
  | .sbcAby d => TableRow.sbcAby d | .sbcIzx d => TableRow.sbcIzx d | .sbcIzy d => TableRow.sbcIzy d
  | .cmpImm d => TableRow.cmpImm d | .cmpZp d => TableRow.cmpZp d | .cmpZpx d => TableRow.cmpZpx d
  | .cmpAbs d => TableRow.cmpAbs d | .cmpAbx d => TableRow.cmpAbx d | .cmpAby d => TableRow.cmpAby d
  | .cmpIzx d => TableRow.cmpIzx d | .cmpIzy d => TableRow.cmpIzy d | .cpxImm d => TableRow.cpxImm d
  | .cpxZp d => TableRow.cpxZp d | .cpxAbs d => TableRow.cpxAbs d | .cpyImm d => TableRow.cpyImm d
  | .cpyZp d => TableRow.cpyZp d | .cpyAbs d => TableRow.cpyAbs d | .aslAcc => TableRow.aslAcc
  | .aslZp d => TableRow.aslZp d | .aslZpx d => TableRow.aslZpx d | .aslAbs d => TableRow.aslAbs d
  | .aslAbx d => TableRow.aslAbx d | .lsrAcc => TableRow.lsrAcc | .lsrZp d => TableRow.lsrZp d
  | .lsrZpx d => TableRow.lsrZpx d | .lsrAbs d => TableRow.lsrAbs d | .lsrAbx d => TableRow.lsrAbx d
  | .rolAcc => TableRow.rolAcc | .rolZp d => TableRow.rolZp d | .rolZpx d => TableRow.rolZpx d
  | .rolAbs d => TableRow.rolAbs d | .rolAbx d => TableRow.rolAbx d | .rorAcc => TableRow.rorAcc
  | .rorZp d => TableRow.rorZp d | .rorZpx d => TableRow.rorZpx d | .rorAbs d => TableRow.rorAbs d
  | .rorAbx d => TableRow.rorAbx d | .bcc d => TableRow.bcc d | .bcs d => TableRow.bcs d | .beq d => TableRow.beq d
  | .bne d => TableRow.bne d | .bmi d => TableRow.bmi d | .bpl d => TableRow.bpl d | .bvc d => TableRow.bvc d
  | .bvs d => TableRow.bvs d | .jsr d => TableRow.jsr d | .rts => TableRow.rts | .jmpAbs d => TableRow.jmpAbs d
  | .jmpInd d => TableRow.jmpInd d | .pha => TableRow.pha | .php => TableRow.php | .pla => TableRow.pla
  | .plp => TableRow.plp | .clc => TableRow.clc | .sec => TableRow.sec | .cli => TableRow.cli | .sei => TableRow.sei
  | .cld => TableRow.cld | .sed => TableRow.sed | .clv => TableRow.clv | .nop => TableRow.nop | .brk => TableRow.brk
  | .rti => TableRow.rti

theorem entryOf?_opcode (i : Instr) : ∃ e, entryOf? i.opcode = some e ∧ e.mnemonic = i.mnemonic ∧ e.mode = i.mode := by
  obtain ⟨_, hrow⟩ := tableRow i
  obtain ⟨e, he, hpair⟩ := Option.map_eq_some_iff.mp hrow
  simp only [Prod.mk.injEq] at hpair
  obtain ⟨_, hmnemonic, hmode, _⟩ := hpair
  exact ⟨e, he, hmnemonic, hmode⟩

theorem mem_legal_of_entryOf? {op : Byte} {e : OpcodeEntry} (h : entryOf? op = some e) : e ∈ legal ∧ e.opcode = op :=
  ⟨List.mem_of_find?_eq_some h, by simpa using List.find?_some h⟩

/-- R81, R85: each row is as long as its mode says, and its pair of mnemonic and mode is a legal one. -/
theorem legal_rows : ∀ e ∈ legal, e.length = e.mode.length ∧ e.mode ∈ e.mnemonic.modes := by
  decide +kernel

/-- R86: the rows stand in the order of their opcode bytes. -/
theorem legal_opcodes_rising : (legal.map fun e => e.opcode.toNat).IsChain (· < ·) := by
  decide +kernel

/-- R85: no two rows have one opcode byte. -/
theorem legal_opcodes_nodup : (legal.map OpcodeEntry.opcode).Nodup := by
  have hnodup : ((legal.map OpcodeEntry.opcode).map BitVec.toNat).Nodup := by
    rw [List.map_map]
    exact (List.isChain_iff_pairwise.mp legal_opcodes_rising).imp Nat.ne_of_lt
  exact hnodup.of_map

/-- R85, R90: a pair of mnemonic and mode "stands for exactly one opcode byte". -/
theorem legal_pairs_nodup : (legal.map fun e => (e.mnemonic, e.mode)).Nodup := by
  decide +kernel

theorem opcode_eq_of_pair_eq {e e' : OpcodeEntry} (h : e ∈ legal) (h' : e' ∈ legal) (hm : e.mnemonic = e'.mnemonic)
    (hmode : e.mode = e'.mode) : e.opcode = e'.opcode :=
  congrArg _ (List.inj_on_of_nodup_map legal_pairs_nodup h h' (Prod.ext hm hmode))

theorem opcode_of_entryOf? {op : Byte} {e : OpcodeEntry} {i : Instr} (h : entryOf? op = some e)
    (hm : i.mnemonic = e.mnemonic) (hmode : i.mode = e.mode) : i.opcode = op := by
  obtain ⟨e', he', hm', hmode'⟩ := entryOf?_opcode i
  obtain ⟨hmem, hop⟩ := mem_legal_of_entryOf? h
  obtain ⟨hmem', hop'⟩ := mem_legal_of_entryOf? he'
  rw [← hop, ← hop']
  exact opcode_eq_of_pair_eq hmem' hmem (hm'.trans hm) (hmode'.trans hmode)

/-! ### Decoding and encoding -/

/-- R81, R83: what a mode reads is an operand of that mode, and its bytes stand at the head. -/
theorem bytes_of_takeOperand {m : Mode} {bytes rest : List Byte} {o : Operand}
    (h : m.takeOperand bytes = some (o, rest)) : o.mode = m ∧ bytes = o.bytes ++ rest := by
  obtain _ | ⟨b1, _ | ⟨b2, bs⟩⟩ := bytes <;> cases m <;> cases h <;> simp [Operand.mode, Operand.bytes]

theorem decode_encode (i : Instr) (rest : List Byte) : decode (encode i ++ rest) = .ok (i, rest) := by
  obtain ⟨e, he, hm, hmode⟩ := entryOf?_opcode i
  refine decode_of_entry he ?_ (by rw [hm]; exact ofSource?_source i)
  rw [hmode]
  exact takeOperand_bytes i.operand rest

theorem encode_of_decode {bytes rest : List Byte} {i : Instr} (h : decode bytes = .ok (i, rest)) :
    bytes = encode i ++ rest := by
  cases bytes with
  | nil => cases h
  | cons op bs =>
    obtain ⟨e, he, hm, htake⟩ := decode_eq_ok h
    obtain ⟨hmode, hbytes⟩ := bytes_of_takeOperand htake
    rw [hbytes, ← opcode_of_entryOf? he hm hmode]
    rfl

/-- R90: a mnemonic with the operand at PC of a mode it has stands for an instruction. -/
theorem ofSource?_operandAtPC {m : Mnemonic} {md : Mode} (h : md ∈ m.modes) (s : Machine.State) :
    ∃ i, Instr.ofSource? ⟨m, s.operandAtPC md⟩ = some i := by
  cases m <;> rw [Mnemonic.modes] at h <;> fin_cases h <;> exact ⟨_, rfl⟩

/-- R85, R90: the legal pairs of mnemonic and mode are those of the instructions. -/
theorem exists_instr_of_mem_modes {m : Mnemonic} {md : Mode} (h : md ∈ m.modes) :
    ∃ i : Instr, i.mnemonic = m ∧ i.mode = md := by
  obtain ⟨i, hi⟩ := ofSource?_operandAtPC h Machine.State.reset
  have hsrc := source_of_ofSource? hi
  refine ⟨i, by rw [Instr.mnemonic, hsrc], ?_⟩
  rw [Instr.mode, Instr.operand, hsrc, Machine.State.mode_operandAtPC]

end Sys2Proof

namespace Sys2Proof.Proofs

/-- Settles O57: the instruction's row of the table, its operand read back, and the constructor they name. -/
theorem decodeOfEncode : Obligations.DecodeOfEncode :=
  fun i rest => ⟨i.wf_eq_true, decode_encode i rest⟩

/-- Settles O58: the row read is the instruction's own, so the first byte is its opcode; the operand's bytes follow. -/
theorem encodeOfDecode : Obligations.EncodeOfDecode :=
  fun _ _ _ => encode_of_decode

/-- Settles O60: the rows' pairs are legal by inspection, and each legal pair has an instruction with its row. -/
theorem opcodeTableIsSound : Obligations.OpcodeTableIsSound := by
  refine ⟨rfl, legal_opcodes_nodup, fun e he => (legal_rows e he).1, fun m md => ⟨?_, fun h => ?_⟩, by decide +kernel⟩
  · rintro ⟨e, he, rfl, rfl⟩
    exact (legal_rows e he).2
  · obtain ⟨i, hm, hmode⟩ := exists_instr_of_mem_modes h
    obtain ⟨e, he, hm', hmode'⟩ := entryOf?_opcode i
    exact ⟨e, (mem_legal_of_entryOf? he).1, hm'.trans hm, hmode'.trans hmode⟩

end Sys2Proof.Proofs
end

section
/-! The step (spec/40_fetch_execute_addressing.md R100 to R107): what a fetch finds by the opcode's entry, how a step
halts, and the step as the rules' pseudocode has it. -/

namespace Sys2Proof.Machine

open Sys2Proof.Claims

/-! ### Fetch by the opcode's entry -/

theorem fetch_of_no_entry {s : State} (h : entryOf? s.opcodeByte = none) :
    s.fetch = .error (.illegalOpcode s.opcodeByte) :=
  decode_illegal h _

/-- R101, R102: with an entry the fetch finds its mnemonic and the operand at PC. -/
theorem fetch_of_entry {s : State} {e : OpcodeEntry} (h : entryOf? s.opcodeByte = some e) :
    ∃ i rest, s.fetch = .ok (i, rest) ∧ i.mnemonic = e.mnemonic ∧ i.operand = s.afterOpcode.operandAtPC e.mode := by
  obtain ⟨hmem, _⟩ := mem_legal_of_entryOf? h
  obtain ⟨⟨o, rest⟩, htake⟩ := Option.isSome_iff_exists.mp (takeOperand_isSome e.mode
    (s.afterOpcode.memRead s.afterOpcode.pc) (s.afterOpcode.memRead (s.afterOpcode.pc + 1#16)))
  obtain rfl := takeOperand_at_pc htake
  obtain ⟨i, hi⟩ := ofSource?_operandAtPC (legal_rows e hmem).2 s.afterOpcode
  have hsrc := source_of_ofSource? hi
  refine ⟨i, rest, ?_, by rw [Instr.mnemonic, hsrc], by rw [Instr.operand, hsrc]⟩
  rw [State.fetch, State.fetchBytes_eq]
  exact decode_of_entry h htake hi

/-- D8: BRK is the byte 0x00 and no other. -/
theorem legal_brk : ∀ e ∈ legal, e.mnemonic = .BRK ↔ e.opcode = 0x00#8 := by
  decide +kernel

/-! ### What the loop does after the handler, as a record -/

theorem State.endStep_record (cfg : Config) (op : Byte) (i : Instr) (u : State) : u.endStep cfg op i =
    if u.run = .running then
      { u with
        pc := if u.pcw then u.pc else u.pc + BitVec.ofNat 16 (i.length - 1)
        cycles := u.cycles + cfg.cyc op
        pcw := false }
    else { u with pcw := false } := by
  split
  · next hr =>
    rw [State.endStep_of_running hr, State.advance]
    cases u.pcw <;> rfl
  · next hr => exact State.endStep_of_halted hr cfg op i

/-- R102: a byte without an entry takes the exception. -/
theorem stepWith_of_no_entry (cfg : Config) {s : State} (hr : s.run = .running) (h : entryOf? (s.memRead s.pc) = none) :
    stepWith cfg s = .next { s with pc := s.pc + 1#16, run := .haltedFault (s.memRead s.pc) s.pc, pcw := false } :=
  stepWith_of_error hr (fetch_of_no_entry h)

/-- R106: BRK ends the step at once. -/
theorem stepWith_of_brk (cfg : Config) {s : State} (hr : s.run = .running) {i : Instr} {rest : List Byte}
    (hf : s.fetch = .ok (i, rest)) (hm : i.mnemonic = .BRK) :
    stepWith cfg s = .next { s with pc := s.pc + 1#16, run := .haltedBrk, pcw := false } := by
  have hexec : exec i s.afterOpcode = .next s.afterOpcode.halt := by
    rw [exec_eq_effect, hm]
    rfl
  rw [stepWith_of_fetch hr hf hexec, State.endStep_of_halted (by simp)]
  rfl

/-! ### The rules' pseudocode -/

/-- R110 to R119: the address the pseudocode computes from the bytes at PC is the resolver's for the operand there. -/
theorem resolve_operandAtPC {md : Mode} (h : md ∉ [Mode.IMP, .ACC]) (s : State) :
    s.resolve (s.operandAtPC md) = some (bookEA s md) := by
  cases md with
  | IMP | ACC => simp at h
  | IND =>
    simp only [State.operandAtPC, State.resolve, State.indirectTarget, bookEA]
    split <;> rfl
  | _ => rfl

theorem targetOf_operandAtPC {md : Mode} (h : md ∉ [Mode.IMP, .ACC]) (s : State) :
    s.targetOf (s.operandAtPC md) = bookEA s md := by
  rw [State.targetOf, resolve_operandAtPC h]
  rfl

/-- The modes of a memory operand. -/
def memModes : List Mode := [.ZP, .ZPX, .ZPY, .ABS, .ABX, .ABY, .IZX, .IZY]

theorem memModes_of_store : ∀ m ∈ [Mnemonic.STA, .STX, .STY, .INC, .DEC], ∀ k ∈ m.modes, k ∈ memModes := by
  decide

theorem modes_of_shift : ∀ m ∈ shifts, ∀ k ∈ m.modes, k = .ACC ∨ k ∈ memModes := by
  decide

/-- In a mode that addresses a data byte, the memory operand's address is the pseudocode's. -/
theorem ea_memOf_operandAtPC {md : Mode} (h : md ∈ memModes) (s : State) :
    (memOf (s.operandAtPC md)).ea s = bookEA s md := by
  rw [memModes] at h
  fin_cases h <;> rfl

theorem byteOf_operandAtPC {md : Mode} (h : md ∉ [Mode.IMP, .ACC, .IND, .REL]) (s : State) :
    s.byteOf (s.operandAtPC md) = bookOperand s md := by
  cases md with
  | IMP | ACC | IND | REL => simp at h
  | _ => rfl

theorem bookShift_eq {md : Mode} (h : md = .ACC ∨ md ∈ memModes) (f : Byte → Bool → ShiftOut) (s : State) :
    bookShift s md f = s.shiftOf f (s.operandAtPC md) := by
  rw [memModes] at h
  obtain rfl | h := h
  · rfl
  · fin_cases h <;> rfl

theorem bookModify_eq {md : Mode} (h : md ∈ memModes) (f : Byte → Byte) (s : State) :
    bookModify s md f = s.modifyAt f (memOf (s.operandAtPC md)) := by
  rw [memModes] at h
  fin_cases h <;> rfl

/-- R103, R126: the pseudocode of each mnemonic is the handler's effect with the operand at PC. -/
theorem bookExec_eq_effect {m : Mnemonic} {md : Mode} (h : md ∈ m.modes) (s : State) :
    bookExec s md m = s.effect (s.operandAtPC md) m := by
  cases m with
  | LDA | LDX | LDY | AND | ORA | EOR | BIT | ADC | SBC | CMP | CPX | CPY =>
    rw [State.effect, byteOf_operandAtPC (Mnemonic.modes_of_reading _ (by decide) _ h)]
    rfl
  | STA | STX | STY =>
    rw [State.effect, State.storeAt, ea_memOf_operandAtPC (memModes_of_store _ (by decide) _ h)]
    rfl
  | INC | DEC => 
    rw [State.effect, ← bookModify_eq (memModes_of_store _ (by decide) _ h)]
    rfl
  | ASL | LSR | ROL | ROR => 
    rw [State.effect, ← bookShift_eq (modes_of_shift _ (by decide) _ h)]
    rfl
  | BCC | BCS | BEQ | BNE | BMI | BPL | BVC | BVS =>
    obtain rfl := List.mem_singleton.mp h
    rfl
  | JSR =>
    obtain rfl := List.mem_singleton.mp h
    rfl
  | JMP =>
    have hmode : md ∉ [Mode.IMP, .ACC] := by
      rw [Mnemonic.modes] at h
      fin_cases h <;> decide
    rw [State.effect, targetOf_operandAtPC hmode]
    rfl
  | _ => rfl

section
variable {cfg : Config} {s : State} {e : OpcodeEntry}

theorem bookStep_of_no_entry (h : entryOf? (s.memRead s.pc) = none) :
    bookStep cfg s = { s with pc := s.pc + 1#16, run := .haltedFault (s.memRead s.pc) s.pc, pcw := false } := by
  simp only [bookStep, h]

theorem bookStep_of_brk (h : entryOf? (s.memRead s.pc) = some e) (hm : e.mnemonic = .BRK) :
    bookStep cfg s = { s with pc := s.pc + 1#16, run := .haltedBrk, pcw := false } := by
  simp only [bookStep, h, hm, if_pos]

/-- Loop steps 4 and 5 of the pseudocode, the marker aside, as one record. -/
theorem bookStep_of_entry (h : entryOf? (s.memRead s.pc) = some e) (hm : e.mnemonic ≠ .BRK) :
    { bookStep cfg s with pcw := false } =
      let u := bookExec s.afterOpcode e.mode e.mnemonic
      { u with
        pc := if u.pcw then u.pc else u.pc + BitVec.ofNat 16 (e.length - 1)
        cycles := u.cycles + cfg.cyc (s.memRead s.pc)
        pcw := false } := by
  have hstart : { s with pcw := false, pc := s.pc + 1#16 } = s.afterOpcode := rfl
  simp only [bookStep, h, if_neg hm, hstart]
  cases (bookExec s.afterOpcode e.mode e.mnemonic).pcw <;> rfl

end

end Sys2Proof.Machine

namespace Sys2Proof.Proofs

open Sys2Proof.Machine Sys2Proof.Claims

/-- Settles O34: the two arms by definition. -/
theorem nopAndBreakHandlers : Obligations.NopAndBreakHandlers :=
  fun _ => ⟨rfl, rfl⟩

/-- Settles O35: the handler starts in `State.afterOpcode`, and the loop after it is `State.endStep_record`. -/
theorem stepRunsTheDecodedInstruction : Obligations.StepRunsTheDecodedInstruction := by
  intro cfg s i rest hr hf
  refine ⟨_, exec_eq_effect i _, ?_⟩
  rw [stepWith_of_fetch hr hf (exec_eq_effect i _), State.endStep_record]
  rfl

/-- Settles O36: the byte is rejected by name, which takes the exception. -/
theorem illegalOpcodeHaltsWithItsByteAndAddress : Obligations.IllegalOpcodeHaltsWithItsByteAndAddress :=
  fun cfg _ => stepWith_of_no_entry cfg

/-- Settles O37: one lookup for each of the 256 bytes. -/
theorem illegalBytesAreTheListedOnes : Obligations.IllegalBytesAreTheListedOnes :=
  ⟨rfl, by decide +kernel⟩

/-- Settles O39: 0x00 is BRK's byte. -/
theorem breakEndsTheStepAtOnce : Obligations.BreakEndsTheStepAtOnce := by
  intro cfg s hr hbyte
  have hentry : entryOf? s.opcodeByte = some ⟨0x00#8, .BRK, .IMP, 1, 7⟩ := by
    rw [State.opcodeByte, hbyte]
    rfl
  obtain ⟨i, rest, hf, hm, _⟩ := fetch_of_entry hentry
  exact stepWith_of_brk cfg hr hf hm

/-- Settles O38: without an entry the step faults, with BRK's entry it breaks, with any other it stays running. -/
theorem runningStepsGoOnAndHaltedStepsStop : Obligations.RunningStepsGoOnAndHaltedStepsStop := by
  intro cfg s
  refine ⟨fun hr => ?_, stepWith_haltedBrk, fun _ _ => stepWith_haltedFault⟩
  cases hentry : entryOf? (s.memRead s.pc) with
  | none =>
    refine ⟨_, stepWith_of_no_entry cfg hr hentry, fun op addr => ?_, ?_⟩
    · simp [eq_comm]
    · refine ⟨nofun, fun hbyte => ?_⟩
      rw [hbyte] at hentry
      cases hentry
  | some e =>
    obtain ⟨hmem, hop⟩ := mem_legal_of_entryOf? hentry
    obtain ⟨i, rest, hf, hm, _⟩ := fetch_of_entry hentry
    refine ⟨_, stepWith_of_fetch hr hf (exec_eq_effect i _), ?_⟩
    have hbrk : e.mnemonic = .BRK ↔ s.memRead s.pc = 0x00#8 := (legal_brk e hmem).trans (by rw [hop])
    rw [State.endStep_run, State.effect_run, State.afterOpcode_run, hr, hm, ← hbrk]
    split <;> simp_all

/-- Settles O49: the exception and BRK as they are in the pseudocode, any other handler by `bookExec_eq_effect`. -/
theorem stepAgreesWithTheRulesPseudocode : Obligations.StepAgreesWithTheRulesPseudocode := by
  intro cfg s hr
  cases hentry : entryOf? (s.memRead s.pc) with
  | none => rw [stepWith_of_no_entry cfg hr hentry, bookStep_of_no_entry hentry]
  | some e =>
    obtain ⟨hmem, _⟩ := mem_legal_of_entryOf? hentry
    obtain ⟨hlength, hmodes⟩ := legal_rows e hmem
    obtain ⟨i, rest, hf, hm, ho⟩ := fetch_of_entry hentry
    by_cases hbrk : e.mnemonic = .BRK
    · rw [stepWith_of_brk cfg hr hf (hm.trans hbrk), bookStep_of_brk hentry hbrk]
    · have hlen : i.length = e.length := by rw [hlength, Instr.length, Instr.mode, ho, State.mode_operandAtPC]
      have hrun : (s.afterOpcode.effect (s.afterOpcode.operandAtPC e.mode) e.mnemonic).run = .running := by
        rw [State.effect_run, if_neg hbrk]
        exact hr
      rw [stepWith_of_fetch hr hf (exec_eq_effect i _), hm, ho, State.endStep_record, if_pos hrun, hlen,
        ← bookExec_eq_effect hmodes, bookStep_of_entry hentry hbrk]
      rfl

end Sys2Proof.Proofs
end

section
/-! The remaining modes of the resolver (spec/40_fetch_execute_addressing.md R111, R118, R119), sample words of the
table, and reset, load and start-up (spec/70_reset_and_hazards.md R290 to R296). -/

namespace Sys2Proof.Machine

/-! ### The branch target -/

/-- R119: PC, the two bytes of the branch and the signed displacement, modulo 65536. -/
theorem branchTarget_eq_ofInt (pc : Word) (d : Byte) :
    pc + 1#16 + 1#16 + sext16 d = BitVec.ofInt 16 (pc.toNat + 2 + d.toInt) := by
  have hpc : pc + 1#16 + 1#16 = BitVec.ofInt 16 (pc.toNat + 2) := by
    rw [BitVec.add_assoc, BitVec.ofInt_add, BitVec.ofInt_natCast, BitVec.ofNat_toNat, BitVec.setWidth_eq]
    rfl
  rw [hpc]
  exact (BitVec.ofInt_add _ d.toInt).symm

/-! ### Loads -/

theorem word_succ_add (start : Word) (k : Nat) :
    start + 1#16 + BitVec.ofNat 16 k = start + BitVec.ofNat 16 (k + 1) := by
  rw [BitVec.add_assoc, ← BitVec.ofNat_add, Nat.add_comm]

/-- R296: a load changes no cell but those of its addresses. -/
theorem read_loadBytes_of_ne {b start : Word} {bytes : List Byte}
    (h : ∀ k, k < bytes.length → phys b ≠ phys (start + BitVec.ofNat 16 k)) (m : Memory) :
    (loadBytes start bytes m).read b = m.read b := by
  induction bytes generalizing start m with
  | nil => rfl
  | cons v rest ih =>
    have hstart : phys b ≠ phys start := by simpa using h 0 (Nat.zero_lt_succ _)
    rw [loadBytes, ih fun k hk => ?_, Memory.read_write_ne hstart]
    rw [word_succ_add]
    exact h (k + 1) (Nat.succ_lt_succ hk)

/-- R296: a byte of a load is read at its address where no later byte goes to the same cell. -/
theorem read_loadBytes {start : Word} {bytes : List Byte} {m : Memory} (hm : m.wf = true) {k : Nat}
    (hk : k < bytes.length)
    (hlast : ∀ j, k < j → j < bytes.length → phys (start + BitVec.ofNat 16 j) ≠ phys (start + BitVec.ofNat 16 k)) :
    (loadBytes start bytes m).read (start + BitVec.ofNat 16 k) = bytes[k] := by
  induction bytes generalizing start m k with
  | nil => cases hk
  | cons v rest ih =>
    rw [loadBytes]
    cases k with
    | zero =>
      rw [read_loadBytes_of_ne fun j hj => ?_]
      · simpa using Memory.read_write_same hm start v
      · rw [word_succ_add]
        exact (hlast (j + 1) (Nat.succ_pos j) (Nat.succ_lt_succ hj)).symm
    | succ k =>
      rw [← word_succ_add]
      refine ih (Memory.write_wf hm _ _) (Nat.lt_of_succ_lt_succ hk) fun j hkj hj => ?_
      rw [word_succ_add, word_succ_add]
      exact hlast (j + 1) (Nat.succ_lt_succ hkj) (Nat.succ_lt_succ hj)

theorem loadFits_iff (start : Word) (bytes : List Byte) :
    loadFits start bytes = true ↔ start.toNat + bytes.length ≤ 65536 :=
  decide_eq_true_iff

/-! ### Start-ups -/

theorem boot?_isSome_iff (cfg : Config) (origin : Word) (bytes : List Byte) :
    (boot? cfg origin bytes).isSome = true ↔ cfg.wf = true ∧ loadFits origin bytes = true := by
  simp [Option.isSome_iff_exists, boot?_eq_some]

/-- R295: reset reads the origin back from the vector. -/
theorem resetBus_write16_pc (cfg : Config) {m : Memory} (hm : m.wf = true) (origin : Word) :
    (resetBus cfg (m.write16 vecReset origin)).pc = origin :=
  Memory.read16_write16 hm vecReset origin

end Sys2Proof.Machine

namespace Sys2Proof.Proofs

open Sys2Proof.Machine Sys2Proof.Claims

/-- Settles O9: the operand is the displacement at PC, and the target's arithmetic is `branchTarget_eq_ofInt`. -/
theorem resolverRelativeMode : Obligations.ResolverRelativeMode := by
  intro s i rest hf hm
  obtain ⟨hlen, hea⟩ := resolve_of_fetch hf hm
  exact ⟨hlen, hea.trans (congrArg some (branchTarget_eq_ofInt s.pc (s.memRead (s.pc + 1#16))))⟩

/-- Settles O10: the operand is the one at PC; the pointer's bytes lie where `State.zpPointer_eq` says. -/
theorem resolverImmediateAndIndirectIndexed : Obligations.ResolverImmediateAndIndirectIndexed := by
  intro s i rest hf h
  refine ⟨fun hm => ?_, fun hm => ?_⟩
  · obtain ⟨hlen, hea⟩ := resolve_of_fetch hf hm
    refine ⟨hlen, hea, ?_⟩
    rw [operand_of_fetch hf, hm]
    rfl
  · obtain ⟨hlen, hea⟩ := resolve_of_fetch hf hm
    refine ⟨hlen, _, hea, ?_⟩
    exact (toNat_add_zext16 _ _).trans (by rw [State.zpPointer_eq])

/-- Settles O50: reset of a bus by definition. -/
theorem resetRestartsAndKeepsMemory : Obligations.ResetRestartsAndKeepsMemory :=
  fun _ _ => rfl

/-- Settles O51: a bus of zeros has BRK's byte at 0x0000, so the first step is `breakEndsTheStepAtOnce`. -/
theorem freshMachineBreaksAtOnce : Obligations.FreshMachineBreaksAtOnce :=
  ⟨State.reset_eq_resetBus, rfl, breakEndsTheStepAtOnce Config.default State.reset rfl rfl⟩

/-- Settles O52: the last byte of each cell stays, the other cells are untouched, and the admission is its bound. -/
theorem loadPlacesTheBytes : Obligations.LoadPlacesTheBytes := by
  intro start bytes m hm
  refine ⟨fun k hk hlast => read_loadBytes hm hk hlast, fun b hb => read_loadBytes_of_ne hb m, fun hfit => ?_,
    fun hpast => ?_⟩
  · exact load?_eq_some.mpr ⟨(loadFits_iff start bytes).mpr hfit, rfl⟩
  · refine if_neg fun hfit => ?_
    have := (loadFits_iff start bytes).mp hfit
    omega

/-- Settles O53: a start-up is a reset of the loaded bus, whose vector `Memory.read16_write16` reads back. -/
theorem bootStartsAtTheOrigin : Obligations.BootStartsAtTheOrigin := by
  intro cfg origin bytes
  refine ⟨?_, fun s hs => ?_⟩
  · rw [boot?_isSome_iff, loadFits_iff]
    rfl
  · obtain ⟨hcfg, _, rfl⟩ := boot?_eq_some.mp hs
    have hwf : (loadBytes origin bytes freshBus).wf = true := loadBytes_wf rfl origin bytes
    have hclear : (loadBytes origin bytes freshBus).hiddenClear = true := loadBytes_hiddenClear rfl origin bytes
    exact ⟨resetBus_write16_pc cfg hwf origin, rfl,
      resetBus_inv hcfg (Memory.write16_wf hwf _ _) (Memory.write16_hiddenClear hclear _ _)⟩

/-- Settles O59: the words are encodings of their instructions; 0x02 has no entry. -/
theorem sampleWordsDecode : Obligations.SampleWordsDecode :=
  ⟨decode_encode (.ldaImm 0x05#8) [], decode_encode .brk [], decode_encode (.jsr 0x8010#16) [],
    decode_encode (.jmpInd 0x30FF#16) [], decode_encode (.bne 0xFD#8) [], decode_illegal rfl []⟩

end Sys2Proof.Proofs
end

section
/-! Loads, stores, transfers, increments, logic and BIT (spec/41_load_store_transfer.md, spec/42_incdec_logic.md): each
shared operation once, as the statements' vocabulary has it, then the mnemonics that call it. -/

namespace Sys2Proof.Machine

open Sys2Proof.Claims

/-! ### Results in the statements' words -/

/-- SetZN's flags and every other flag's frame, from what each flag reads (R120). -/
theorem znFollow_of_flags {v : Byte} {s t : State}
    (h : ∀ f, t.flag f = if f = .N then v.msb else if f = .Z then decide (v = 0#8) else s.flag f) :
    ZNFollow v t ∧ FlagsKeptBut [.Z, .N] s t := by
  refine ⟨⟨h .Z, (h .N).trans (BitVec.msb_eq_getLsbD_last v)⟩, fun f hf => ?_⟩
  obtain ⟨hZ, hN⟩ : f ≠ .Z ∧ f ≠ .N := by simpa using hf
  rw [h f, if_neg hN, if_neg hZ]

/-- R54: a byte write changes the byte at its address and no byte of another cell. -/
theorem onlyByte_of_mem_eq {s t : State} (hs : s.mem.wf = true) {ea : Word} {v : Byte}
    (h : t.mem = s.mem.write ea v) : OnlyByte ea v s t := by
  refine ⟨?_, fun b hb => ?_⟩
  · rw [State.memRead, h]
    exact Memory.read_write_same hs ea v
  · rw [State.memRead, h]
    exact Memory.read_write_ne hb v

theorem setsA_loadA (v : Byte) (s : State) : SetsA v s (.next (s.loadA v)) :=
  have ⟨hzn, hkept⟩ := znFollow_of_flags fun f => State.flag_loadA f v s
  ⟨_, rfl, hzn, hkept, fun _ => rfl, rfl⟩

theorem setsX_loadX (v : Byte) (s : State) : SetsX v s (.next (s.loadX v)) :=
  have ⟨hzn, hkept⟩ := znFollow_of_flags fun f => State.flag_loadX f v s
  ⟨_, rfl, hzn, hkept, fun _ => rfl, rfl⟩

theorem setsY_loadY (v : Byte) (s : State) : SetsY v s (.next (s.loadY v)) :=
  have ⟨hzn, hkept⟩ := znFollow_of_flags fun f => State.flag_loadY f v s
  ⟨_, rfl, hzn, hkept, fun _ => rfl, rfl⟩

theorem stores_storeAt {s : State} (hs : s.mem.wf = true) (m : MemOperand) (v : Byte) :
    Stores (m.ea s) v s (.next (s.storeAt m v)) :=
  ⟨_, rfl, onlyByte_of_mem_eq hs rfl, rfl⟩

/-- R160, R163: a read-modify-write changes the byte at its address, Z and N, and nothing else. -/
theorem nextWith_modifyAt {s : State} (hs : s.mem.wf = true) (f : Byte → Byte) (m : MemOperand) :
    NextWith (.next (s.modifyAt f m)) fun t => OnlyByte (m.ea s) (f (s.dataAt m)) s t ∧ ZNFollow (f (s.dataAt m)) t ∧
      FlagsKeptBut [.Z, .N] s t ∧ t = { s with p := t.p, mem := t.mem } :=
  have ⟨hzn, hkept⟩ := znFollow_of_flags fun g => State.flag_modifyAt g f m s
  ⟨_, rfl, onlyByte_of_mem_eq hs rfl, hzn, hkept, rfl⟩

theorem setsFlag_setFlag (f : Flag) (b : Bool) (s : State) : SetsFlag f b s (.next (s.setFlag f b)) := by
  refine ⟨_, rfl, ?_, fun g hg => ?_, fun _ => rfl, rfl⟩
  · rw [State.flag_setFlag, if_pos rfl]
  · rw [State.flag_setFlag, if_neg (by simpa using hg)]

/-- R169: Z of BIT says that A and the byte have no bit in common. -/
theorem and_eq_zero_iff_no_common_bit (a v : Byte) :
    a &&& v = 0#8 ↔ ∀ k, ¬(a.getLsbD k = true ∧ v.getLsbD k = true) := by
  constructor
  · intro h k
    rw [← Bool.and_eq_true, ← BitVec.getLsbD_and, h]
    simp
  · intro h
    refine BitVec.eq_of_getLsbD_eq fun k _ => ?_
    simpa using h k

/-- R161 to R165: a step of one, modulo 256. -/
theorem sub_one_eq_ofNat (b : Byte) : b - 1#8 = BitVec.ofNat 8 (b.toNat + 255) := by
  rw [BitVec.ofNat_add, BitVec.ofNat_toNat, BitVec.setWidth_eq, BitVec.sub_eq_add_neg]
  rfl

theorem add_one_eq_ofNat (b : Byte) : b + 1#8 = BitVec.ofNat 8 (b.toNat + 1) := by
  rw [BitVec.ofNat_add, BitVec.ofNat_toNat, BitVec.setWidth_eq]

theorem reading_of_load_or_logic : [Mnemonic.LDA, .LDX, .LDY] ⊆ readingMnemonics ∧
    [Mnemonic.AND, .ORA, .EOR] ⊆ readingMnemonics := by
  decide

end Sys2Proof.Machine

namespace Sys2Proof.Proofs

open Sys2Proof.Machine Sys2Proof.Claims

/-- Settles O11: each mnemonic loads its register with its data byte. -/
theorem loadsPutTheOperandInTheRegister : Obligations.LoadsPutTheOperandInTheRegister := by
  intro i s h
  refine ⟨s.byteOf i.operand, operandByte?_of_reading (reading_of_load_or_logic.1 h) s, ?_⟩
  rw [exec_eq_effect]
  refine ⟨fun hm => ?_, fun hm => ?_, fun hm => ?_⟩ <;> rw [hm]
  · exact setsA_loadA _ s
  · exact setsX_loadX _ s
  · exact setsY_loadY _ s

/-- Settles O12: each mnemonic stores its register at its memory operand. -/
theorem storesPutTheRegisterAtEA : Obligations.StoresPutTheRegisterAtEA := by
  intro i s hs h
  have hop := operand_eq_mem (i := i) (List.mem_append_left [Mnemonic.INC, .DEC] h)
  refine ⟨memOf i.operand, hop, ?_⟩
  rw [exec_eq_effect]
  refine ⟨fun hm => ?_, fun hm => ?_, fun hm => ?_⟩ <;> rw [hm] <;> exact stores_storeAt hs _ _

/-- Settles O13: five loads from a register, and TXS by definition. -/
theorem transfersCopyRegisters : Obligations.TransfersCopyRegisters := fun s =>
  ⟨setsX_loadX s.a s, setsY_loadY s.a s, setsA_loadA s.x s, setsA_loadA s.y s, setsX_loadX s.sp s, rfl⟩

/-- Settles O14: a read-modify-write whose new byte is one more, or 255 more, modulo 256. -/
theorem incrementsAndDecrementsOfMemory : Obligations.IncrementsAndDecrementsOfMemory := by
  intro i s hs h
  have hop := operand_eq_mem (i := i) (List.mem_append_right [Mnemonic.STA, .STX, .STY] h)
  have hexec := exec_eq_effect i s
  obtain hm | hm : i.mnemonic = .INC ∨ i.mnemonic = .DEC := by simpa using h
  · rw [hm] at hexec ⊢
    refine ⟨memOf i.operand, s.dataAt (memOf i.operand) + 1#8, hop, fun _ => BitVec.toNat_add _ _, nofun, ?_⟩
    rw [hexec, State.effect]
    exact nextWith_modifyAt hs (fun v => v + 1#8) (memOf i.operand)
  · rw [hm] at hexec ⊢
    refine ⟨memOf i.operand, s.dataAt (memOf i.operand) - 1#8, hop, nofun, fun _ => ?_, ?_⟩
    · rw [BitVec.toNat_sub, Nat.add_comm]
      rfl
    · rw [hexec, State.effect]
      exact nextWith_modifyAt hs (fun v => v - 1#8) (memOf i.operand)

/-- Settles O15: four loads of an index register with its value plus or minus one. -/
theorem incrementsAndDecrementsOfRegisters : Obligations.IncrementsAndDecrementsOfRegisters := by
  intro s
  rw [← add_one_eq_ofNat, ← add_one_eq_ofNat, ← sub_one_eq_ofNat, ← sub_one_eq_ofNat]
  exact ⟨setsX_loadX _ s, setsY_loadY _ s, setsX_loadX _ s, setsY_loadY _ s⟩

/-- Settles O16: a load of A with the bitwise operation of A and the data byte. -/
theorem logicCombinesTheAccumulator : Obligations.LogicCombinesTheAccumulator := by
  intro i s h
  have hbyte := operandByte?_of_reading (reading_of_load_or_logic.2 h) s
  have hexec := exec_eq_effect i s
  obtain hm | hm | hm : i.mnemonic = .AND ∨ i.mnemonic = .ORA ∨ i.mnemonic = .EOR := by simpa using h
  all_goals rw [hm] at hexec ⊢; rw [hexec]
  · exact ⟨_, _, hbyte, fun _ _ => BitVec.getLsbD_and, nofun, nofun, setsA_loadA _ s⟩
  · exact ⟨_, _, hbyte, nofun, fun _ _ => BitVec.getLsbD_or, nofun, setsA_loadA _ s⟩
  · exact ⟨_, _, hbyte, nofun, nofun, fun _ _ => BitVec.getLsbD_xor, setsA_loadA _ s⟩

/-- Settles O17: the flags by `State.flag_bitTest`, Z read bit by bit. -/
theorem bitTestsMemoryAgainstTheAccumulator : Obligations.BitTestsMemoryAgainstTheAccumulator := by
  intro i s hm
  have hreading : i.mnemonic ∈ readingMnemonics := by rw [hm]; decide
  refine ⟨s.byteOf i.operand, operandByte?_of_reading hreading s, s.bitTest (s.byteOf i.operand), ?_, ?_, ?_, ?_,
    fun f hf => ?_, fun _ => rfl, rfl⟩
  · rw [exec_eq_effect, hm]
    rfl
  · rw [State.flag_bitTest, ← and_eq_zero_iff_no_common_bit]
    exact decide_eq_true_iff
  · exact (State.flag_bitTest .N _ s).trans (BitVec.msb_eq_getLsbD_last (s.byteOf i.operand))
  · exact State.flag_bitTest .V _ s
  · obtain ⟨hZ, hN, hV⟩ : f ≠ .Z ∧ f ≠ .N ∧ f ≠ .V := by simpa using hf
    rw [State.flag_bitTest, if_neg hV, if_neg hN, if_neg hZ]

/-- Settles O33: seven writes of one flag. -/
theorem flagInstructionsWriteOneFlag : Obligations.FlagInstructionsWriteOneFlag := fun s =>
  ⟨setsFlag_setFlag .C false s, setsFlag_setFlag .C true s, setsFlag_setFlag .I false s, setsFlag_setFlag .I true s,
    setsFlag_setFlag .D false s, setsFlag_setFlag .D true s, setsFlag_setFlag .V false s⟩

end Sys2Proof.Proofs
end

section
/-! Add and subtract with carry (spec/43_arithmetic_compare.md R181 to R183) and the shift family
(spec/44_shift_rotate.md): the operations by arithmetic on the byte's value. -/

namespace Sys2Proof.Machine

open Sys2Proof.Claims

/-! ### Add and subtract -/

/-- R181: what ADC and SBC do around the adder's result. -/
theorem addA_spec (m : Byte) (s : State) :
    ZNFollow (s.addA m).a (s.addA m) ∧ FlagsKeptBut [.C, .V, .Z, .N] s (s.addA m) ∧
      (s.addA m).flag .C = (addCore s.a m (s.flag .C)).cout ∧ (s.addA m).flag .V = (addCore s.a m (s.flag .C)).vout := by
  refine ⟨⟨State.flag_addA .Z m s, (State.flag_addA .N m s).trans (BitVec.msb_eq_getLsbD_last (s.addA m).a)⟩,
    fun f hf => ?_, State.flag_addA .C m s, State.flag_addA .V m s⟩
  obtain ⟨hC, hV, hZ, hN⟩ : f ≠ .C ∧ f ≠ .V ∧ f ≠ .Z ∧ f ≠ .N := by simpa using hf
  rw [State.flag_addA, if_neg hN, if_neg hZ, if_neg hV, if_neg hC]

/-- R183: the complement of the operand, as an unsigned and as a signed value. -/
theorem toNat_complement (v : Byte) : (~~~v).toNat = 255 - v.toNat :=
  BitVec.toNat_not

theorem toInt_complement (v : Byte) : (~~~v).toInt = -v.toInt - 1 := by
  have hv := v.isLt
  have hc := toNat_complement v
  rw [BitVec.toInt_eq_toNat_cond, BitVec.toInt_eq_toNat_cond, hc]
  split <;> split <;> omega

/-! ### The shift family -/

/-- The function of each shift mnemonic (R201 to R204). -/
def shiftFnOf : Mnemonic → Byte → Bool → ShiftOut
  | .ASL => aslFn
  | .LSR => lsrFn
  | .ROL => rolFn
  | _ => rorFn

theorem effect_of_shift {m : Mnemonic} (h : m ∈ shifts) (o : Operand) (s : State) :
    s.effect o m = s.shiftOf (shiftFnOf m) o := by
  fin_cases h <;> rfl

theorem toNat_msb (v : Byte) : v.msb.toNat = v.toNat / 128 := by
  have hv := v.isLt
  rw [BitVec.msb_eq_decide]
  by_cases h : 128 ≤ v.toNat
  · rw [decide_eq_true h, Bool.toNat_true]; omega
  · rw [decide_eq_false h, Bool.toNat_false]; omega

theorem toNat_getLsbD_zero (v : Byte) : (v.getLsbD 0).toNat = v.toNat % 2 := by
  rw [BitVec.getLsbD, Nat.testBit_zero]
  rcases Nat.mod_two_eq_zero_or_one v.toNat with h | h <;> rw [h] <;> rfl

theorem toNat_shiftLeft_one (v : Byte) : (v <<< 1).toNat = 2 * v.toNat % 256 := by
  rw [BitVec.toNat_shiftLeft, Nat.shiftLeft_eq, Nat.mul_comm]

theorem toNat_ushiftRight_one (v : Byte) : (v >>> 1).toNat = v.toNat / 2 := by
  rw [BitVec.toNat_ushiftRight, Nat.shiftRight_eq_div_pow]

/-- R203: the old carry goes into the bit that the shift left clear, so the disjunction is a sum. -/
theorem toNat_rolFn (v : Byte) (c : Bool) : (rolFn v c).r.toNat = (2 * v.toNat + c.toNat) % 256 := by
  have hc := c.toNat_lt
  have hbit : (if c then 0x01#8 else 0x00#8 : Byte).toNat = c.toNat := by cases c <;> rfl
  have hclear : 2 * v.toNat % 256 = 2 ^ 1 * (v.toNat % 128) := by omega
  rw [rolFn, BitVec.toNat_or, toNat_shiftLeft_one, hbit, hclear, ← Nat.two_pow_add_eq_or_of_lt hc]
  omega

/-- R204: the old carry goes into bit 7, which the shift left clear. -/
theorem toNat_rorFn (v : Byte) (c : Bool) : (rorFn v c).r.toNat = v.toNat / 2 + 128 * c.toNat := by
  have hv := v.isLt
  have hbit : (if c then 0x80#8 else 0x00#8 : Byte).toNat = 2 ^ 7 * c.toNat := by cases c <;> rfl
  have hclear : v.toNat / 2 < 2 ^ 7 := by omega
  rw [rorFn, BitVec.toNat_or, toNat_ushiftRight_one, hbit, Nat.or_comm, ← Nat.two_pow_add_eq_or_of_lt hclear,
    Nat.add_comm]

/-- R201 to R204 in arithmetic: the result and the bit shifted out. -/
theorem shiftValue_eq {m : Mnemonic} (h : m ∈ shifts) (v : Byte) (c : Bool) :
    shiftValue v.toNat c.toNat m = some ((shiftFnOf m v c).r.toNat, (shiftFnOf m v c).cout.toNat) := by
  fin_cases h
  · simp only [shiftValue, shiftFnOf, aslFn, toNat_shiftLeft_one, toNat_msb]
  · simp only [shiftValue, shiftFnOf, lsrFn, toNat_ushiftRight_one, toNat_getLsbD_zero]
  · simp only [shiftValue, shiftFnOf, toNat_rolFn]
    rw [rolFn, toNat_msb]
  · simp only [shiftValue, shiftFnOf, toNat_rorFn]
    rw [rorFn, toNat_getLsbD_zero]

/-- The flags the shift family writes, from what each flag reads (R200). -/
theorem cznFollow_of_flags {r : Byte} {c : Bool} {s t : State}
    (h : ∀ f, t.flag f = if f = .N then r.msb else if f = .Z then decide (r = 0#8) else if f = .C then c else s.flag f) :
    ZNFollow r t ∧ t.flag .C = c ∧ FlagsKeptBut [.C, .Z, .N] s t := by
  refine ⟨⟨h .Z, (h .N).trans (BitVec.msb_eq_getLsbD_last r)⟩, h .C, fun f hf => ?_⟩
  obtain ⟨hC, hZ, hN⟩ : f ≠ .C ∧ f ≠ .Z ∧ f ≠ .N := by simpa using hf
  rw [h f, if_neg hN, if_neg hZ, if_neg hC]

end Sys2Proof.Machine

namespace Sys2Proof.Proofs

open Sys2Proof.Machine Sys2Proof.Claims

/-- Settles O19: the adder's result, carry and overflow by arithmetic; no flag but C, V, Z, N is written or read. -/
theorem addWithCarry : Obligations.AddWithCarry := by
  intro i s hm
  have hreading : i.mnemonic ∈ readingMnemonics := by rw [hm]; decide
  obtain ⟨hzn, hkept, hC, hV⟩ := addA_spec (s.byteOf i.operand) s
  refine ⟨s.byteOf i.operand, operandByte?_of_reading hreading s, s.addA (s.byteOf i.operand), ?_,
    addCore_r_toNat _ _ _, ?_, ?_, hzn, hkept, fun _ => rfl, rfl⟩
  · rw [exec_eq_effect, hm]
    rfl
  · rw [hC]
    exact addCore_cout_iff _ _ _
  · rw [hV]
    exact addCore_vout_iff_signedOverflow _ _ _

/-- Settles O20: the addition of the complement, `255 - v` unsigned and `-v - 1` signed, is the subtraction. -/
theorem subtractWithBorrow : Obligations.SubtractWithBorrow := by
  intro i s hm
  have hreading : i.mnemonic ∈ readingMnemonics := by rw [hm]; decide
  obtain ⟨hzn, hkept, hC, hV⟩ := addA_spec (~~~s.byteOf i.operand) s
  have hv := (s.byteOf i.operand).isLt
  have hc := (s.flag .C).toNat_le
  refine ⟨s.byteOf i.operand, operandByte?_of_reading hreading s, s.addA (~~~s.byteOf i.operand), ?_, ?_, ?_, ?_, hzn,
    hkept, fun _ => rfl, rfl⟩
  · rw [exec_eq_effect, hm]
    rfl
  · rw [State.addA_a, addCore_r_toNat, toNat_complement]
    omega
  · rw [hC, addCore_cout_iff, toNat_complement]
    omega
  · rw [hV, addCore_vout_iff_signedOverflow, toInt_complement, SignedOverflow, SignedOverflow]
    omega

/-- Settles O22: the shift's value by `shiftValue_eq`, its flags by `State.flag_shiftA`. -/
theorem shiftsOfTheAccumulator : Obligations.ShiftsOfTheAccumulator := by
  intro i s h hmode
  have hop : i.operand = .acc :=
    (operand_of_shift h).resolve_right fun hmem => mode_mem_ne_acc (memOf i.operand) (by rw [← hmem]; exact hmode)
  obtain ⟨hzn, hC, hkept⟩ := cznFollow_of_flags fun f => State.flag_shiftA f (shiftFnOf i.mnemonic) s
  refine ⟨s.shiftA (shiftFnOf i.mnemonic), ?_, ?_, hzn, hkept, fun _ => rfl, rfl⟩
  · rw [exec_eq_effect, effect_of_shift h, hop, State.shiftOf_acc]
  · rw [hC]
    exact shiftValue_eq h _ _

/-- Settles O23: the same for the byte at the memory operand's address, which is all of memory that changes. -/
theorem shiftsOfMemory : Obligations.ShiftsOfMemory := by
  intro i s hs h hmode
  have hop := (operand_of_shift h).resolve_left fun hacc => hmode (by rw [Instr.mode, hacc]; rfl)
  obtain ⟨hzn, hC, hkept⟩ := cznFollow_of_flags fun f => State.flag_shiftAt f (shiftFnOf i.mnemonic) (memOf i.operand) s
  refine ⟨memOf i.operand, _, hop, s.shiftAt (shiftFnOf i.mnemonic) (memOf i.operand), ?_, ?_,
    onlyByte_of_mem_eq hs (State.shiftAt_mem _ _ s), hzn, hkept, rfl⟩
  · rw [exec_eq_effect, effect_of_shift h, hop]
    rfl
  · rw [hC]
    exact shiftValue_eq h _ _

end Sys2Proof.Proofs
end

section
/-! The stack, branches, jumps, calls and returns (spec/40_fetch_execute_addressing.md R121 to R124,
spec/45_branch_jump_call.md, spec/46_stack_flag_system.md): where pushed bytes lie, and that a pop gives them back. -/

namespace Sys2Proof.Machine

open Sys2Proof.Claims

/-! ### The stack page -/

/-- R31: the address in the stack page, as a number. -/
theorem stackAddr_eq_ofNat (sp : Byte) : stackAddr sp = BitVec.ofNat 16 (0x0100 + sp.toNat) := by
  rw [BitVec.ofNat_add, ← zext16_eq_ofNat]
  rfl

theorem stackAddr_ne {p q : Byte} (h : p ≠ q) : phys (stackAddr p) ≠ phys (stackAddr q) :=
  fun hphys => h (phys_stackAddr_inj.mp hphys)

theorem sub_one_ne (sp : Byte) : sp - 1#8 ≠ sp := by
  bv_omega

theorem sub_one_add_one (sp : Byte) : sp - 1#8 + 1#8 = sp :=
  BitVec.sub_add_cancel sp 1#8

theorem sub_one_sub_one (sp : Byte) : sp - 1#8 - 1#8 = sp - 2#8 := by
  bv_omega

theorem add_one_add_one (sp : Byte) : sp + 1#8 + 1#8 = sp + 2#8 := by
  rw [BitVec.add_assoc]
  rfl

theorem add_one_add_one_add_one (sp : Byte) : sp + 1#8 + 1#8 + 1#8 = sp + 3#8 := by
  rw [BitVec.add_assoc, BitVec.add_assoc]
  rfl

/-! ### Pushes and pops -/

/-- R231: PHP's byte differs from P in bits 4 and 5 alone. -/
theorem getLsbD_pushedStatus_of_ne (p : Byte) {k : Nat} (h4 : k ≠ 4) (h5 : k ≠ 5) :
    (pushedStatus p).getLsbD k = p.getLsbD k := by
  have hbits : pushedStatus p = p ||| BitVec.twoPow 8 4 ||| BitVec.twoPow 8 5 := rfl
  simp [hbits, BitVec.getLsbD_twoPow, h4.symm, h5.symm]

section
variable {s : State} (hs : s.mem.wf = true)
include hs

theorem push8_onlyByte (v : Byte) : OnlyByte (stackAddr s.sp) v s (s.push8 v) :=
  onlyByte_of_mem_eq hs rfl

/-- R123: the high byte lies at the old SP, the low byte one below it, and no other cell changes. -/
theorem push16_bytes (w : Word) : (s.push16 w).memRead (stackAddr s.sp) = hiByte w ∧
    (s.push16 w).memRead (stackAddr (s.sp - 1#8)) = loByte w ∧
    ∀ b : Word, phys b ≠ phys (stackAddr s.sp) → phys b ≠ phys (stackAddr (s.sp - 1#8)) →
      (s.push16 w).memRead b = s.memRead b := by
  obtain ⟨hhi, hkept⟩ := push8_onlyByte hs (hiByte w)
  obtain ⟨hlo, hkept'⟩ := push8_onlyByte (s := s.push8 (hiByte w)) (Memory.write_wf hs _ _) (loByte w)
  exact ⟨(hkept' _ (stackAddr_ne (sub_one_ne s.sp).symm)).trans hhi, hlo,
    fun b hb hb' => (hkept' b hb').trans (hkept b hb)⟩

/-- R124: a word pop after a word push gives the word back. -/
theorem top16_push16 (w : Word) : (s.push16 w).top16 = w := by
  obtain ⟨hhi, hlo, _⟩ := push16_bytes hs w
  have hlo' : (s.push16 w).top8 = loByte w := by
    rw [State.top8, State.push16_sp, sub_one_add_one, hlo]
  have hhi' : (s.push16 w).drop8.top8 = hiByte w := by
    rw [State.top8, State.drop8_sp, State.push16_sp, sub_one_add_one, sub_one_add_one]
    exact hhi
  rw [State.top16, hlo', hhi', wordOfBytes_hiByte_loByte]

end

theorem drop16_sp_push16 (w : Word) (s : State) : (s.push16 w).drop16.sp = s.sp := by
  rw [State.drop16_sp, State.push16_sp, sub_one_add_one, sub_one_add_one]

/-- R124: the popped word's bytes, from the stack pointer before the pop. -/
theorem top16_eq (s : State) : s.top16 =
    wordOfBytes (s.memRead (stackAddr (s.sp + 2#8))) (s.memRead (stackAddr (s.sp + 1#8))) := by
  rw [← add_one_add_one]
  rfl

/-- R244: the word one byte further up, which RTI pops after the status byte. -/
theorem drop8_top16_eq (s : State) : s.drop8.top16 =
    wordOfBytes (s.memRead (stackAddr (s.sp + 3#8))) (s.memRead (stackAddr (s.sp + 2#8))) := by
  rw [top16_eq, State.drop8_sp, BitVec.add_assoc, BitVec.add_assoc]
  rfl

/-! ### Call and return as records -/

theorem relocate_record (w : Word) (s : State) : s.relocate w = { s with pc := w, pcw := true } := rfl

theorem push16_record (w : Word) (s : State) :
    s.push16 w = { s with sp := s.sp - 1#8 - 1#8, mem := (s.push16 w).mem } := rfl

theorem drop16_record (s : State) : s.drop16 = { s with sp := s.sp + 1#8 + 1#8 } := rfl

/-- R219: what JSR leaves, its pushed bytes aside. -/
theorem call_record (w target : Word) (s : State) : (s.push16 w).relocate target =
    { s with sp := s.sp - 2#8, pc := target, mem := (s.push16 w).mem, pcw := true } := by
  rw [relocate_record, push16_record, sub_one_sub_one]

/-- R220: what RTS leaves. -/
theorem return_record (w : Word) (s : State) :
    s.drop16.relocate w = { s with sp := s.sp + 2#8, pc := w, pcw := true } := by
  rw [relocate_record, drop16_record, add_one_add_one]

/-- The popped word depends on memory and SP alone. -/
theorem top16_congr {s t : State} (hmem : t.mem = s.mem) (hsp : t.sp = s.sp) : t.top16 = s.top16 := by
  rw [top16_eq, top16_eq, State.memRead, State.memRead, State.memRead, State.memRead, hmem, hsp]

/-- R219, R220: RTS on the stack that a word push left, wherever PC has gone, gives back SP and goes one past the word. -/
theorem return_of_pushed {s : State} (hs : s.mem.wf = true) (w pc' : Word) (b : Bool) :
    State.effect { s with sp := s.sp - 2#8, pc := pc', mem := (s.push16 w).mem, pcw := b } .imp .RTS =
      { s with pc := w + 1#16, mem := (s.push16 w).mem, pcw := true } := by
  have hword := top16_congr (t := { s with sp := s.sp - 2#8, pc := pc', mem := (s.push16 w).mem, pcw := b })
    (s := s.push16 w) rfl (sub_one_sub_one s.sp).symm
  rw [State.effect, return_record, hword, top16_push16 hs]
  simp only [BitVec.sub_add_cancel]

/-- R244: what RTI leaves. -/
theorem returnFromInterrupt_record (s : State) : s.returnFromInterrupt =
    { s with sp := s.sp + 3#8, pc := s.drop8.top16, p := returnedStatus s.top8, pcw := true } := by
  rw [State.returnFromInterrupt, relocate_record, drop16_record, State.drop8_sp, add_one_add_one_add_one]
  rfl

theorem sameBytes_of_mem_eq {s t : State} (h : t.mem = s.mem) : SameBytes s t :=
  fun b => congrArg (Memory.read b) h

/-! ### The operand of a control transfer -/

theorem resolve_eq_targetOf {o : Operand} (h : o.mode ∉ [Mode.IMP, .ACC]) (s : State) :
    s.resolve o = some (s.targetOf o) := by
  cases o with
  | imp | acc => simp [Operand.mode] at h
  | _ => rfl

theorem modes_of_transfer : ∀ m ∈ branches ++ [Mnemonic.JMP], ∀ k ∈ m.modes, k ∉ [Mode.IMP, .ACC] := by
  decide

theorem exists_branchCondition {m : Mnemonic} (h : m ∈ branches) (s : State) : ∃ c, branchCondition s m = some c := by
  fin_cases h <;> exact ⟨_, rfl⟩

end Sys2Proof.Machine

namespace Sys2Proof.Proofs

open Sys2Proof.Machine Sys2Proof.Claims

/-- Settles O5: a push is one byte write and a step of SP, a pop a step of SP and one byte read. -/
theorem pushAndPopStayInTheStackPage : Obligations.PushAndPopStayInTheStackPage := by
  intro s v hs
  rw [← stackAddr_eq_ofNat, ← stackAddr_eq_ofNat]
  refine ⟨?_, push8_onlyByte hs v, rfl, BitVec.toNat_add _ _, rfl, rfl⟩
  rw [State.push8_sp, BitVec.toNat_sub, Nat.add_comm]
  rfl

/-- Settles O6: the bytes by `push16_bytes`, the pop by `top16_push16`. -/
theorem poppedWordIsThePushedOne : Obligations.PoppedWordIsThePushedOne := by
  intro s w hs
  obtain ⟨hhi, hlo, hkept⟩ := push16_bytes hs w
  exact ⟨(State.push16_sp w s).trans (sub_one_sub_one s.sp), hhi, hlo, hkept, top16_push16 hs w, drop16_sp_push16 w s⟩

/-- Settles O24: the effect of a branch is `State.branchOf` of its condition. -/
theorem branchesTestOneFlag : Obligations.BranchesTestOneFlag := by
  intro i s h
  obtain ⟨c, hc⟩ := exists_branchCondition h s
  have hmode := modes_of_transfer _ (List.mem_append_left _ h) _ i.mode_mem_modes
  refine ⟨c, _, hc, resolve_eq_targetOf hmode s, ?_⟩
  rw [Relocates, exec_eq_effect, State.effect_of_branchCondition hc]
  refine ⟨?_, ?_⟩ <;> rintro rfl <;> rfl

/-- Settles O25: a word push, then a relocation. -/
theorem callPushesItsLastByteAddress : Obligations.CallPushesItsLastByteAddress := by
  intro s target hs
  obtain ⟨hhi, hlo, hkept⟩ := push16_bytes hs (s.pc + 1#16)
  exact ⟨(s.push16 (s.pc + 1#16)).relocate target, rfl, hhi, hlo, hkept, call_record _ _ s⟩

/-- Settles O26: the popped word by `top16_eq`. -/
theorem returnResumesAfterThePoppedAddress : Obligations.ReturnResumesAfterThePoppedAddress := by
  intro s
  rw [← top16_eq, exec_eq_effect]
  exact congrArg Host.Outcome.next (return_record _ s)

/-- Settles O27: the pop gives back the word and SP of JSR's push, and RTS adds one to the word. -/
theorem returnPairsWithCall : Obligations.ReturnPairsWithCall := by
  intro s target pc' hs
  refine ⟨(s.push16 (s.pc + 1#16)).relocate target, rfl, _, exec_eq_effect .rts _, ?_⟩
  rw [call_record]
  refine (return_of_pushed hs (s.pc + 1#16) pc' false).trans ?_
  rw [BitVec.add_assoc]
  rfl

/-- Settles O28: the effect of JMP is a relocation to its target. -/
theorem jumpRelocatesToEA : Obligations.JumpRelocatesToEA := by
  intro i s hm
  have hmode := modes_of_transfer i.mnemonic (by rw [hm]; decide) _ i.mode_mem_modes
  refine ⟨_, resolve_eq_targetOf hmode s, ?_⟩
  rw [Relocates, exec_eq_effect, hm]
  rfl

/-- Settles O29: one byte push each, PHP's byte by `getLsbD_pushedStatus`. -/
theorem pushesOfAccumulatorAndStatus : Obligations.PushesOfAccumulatorAndStatus := by
  intro s hs
  refine ⟨⟨_, rfl, push8_onlyByte hs s.a, rfl⟩, pushedStatus s.p, getLsbD_pushedStatus s.p .B,
    getLsbD_pushedStatus s.p .U, fun _ => getLsbD_pushedStatus_of_ne s.p, _, rfl,
    push8_onlyByte hs _, rfl⟩

/-- Settles O30: a pop and a load of A. -/
theorem pullOfAccumulator : Obligations.PullOfAccumulator := by
  intro s
  obtain ⟨hzn, hkept⟩ := znFollow_of_flags (s := s) (t := s.drop8.loadA s.top8) fun f => State.flag_loadA f _ s.drop8
  exact ⟨_, rfl, hzn, hkept, fun _ => rfl, rfl⟩

/-- Settles O31: the flags by `getLsbD_pulledStatus`. -/
theorem pullOfStatusMasksBreak : Obligations.PullOfStatusMasksBreak := by
  intro s
  refine ⟨_, rfl, fun f hB hU => ?_, getLsbD_pulledStatus s.top8 .B, getLsbD_pulledStatus s.top8 .U, fun _ => rfl, rfl⟩
  exact (getLsbD_pulledStatus s.top8 f).trans (by rw [if_neg hB, if_neg hU]; rfl)

/-- Settles O32: the flags by `getLsbD_returnedStatus`, the word by `top16_eq` one byte further up. -/
theorem returnFromInterruptRestoresStatusAndPC : Obligations.ReturnFromInterruptRestoresStatusAndPC := by
  intro s
  refine ⟨s.returnFromInterrupt, rfl, fun f hU => ?_, ?_, sameBytes_of_mem_eq (State.returnFromInterrupt_mem s), ?_⟩
  · rw [State.flag_returnFromInterrupt, getLsbD_returnedStatus, if_neg hU]
    rfl
  · rw [State.flag_returnFromInterrupt, getLsbD_returnedStatus, if_pos rfl]
  · rw [returnFromInterrupt_record, drop8_top16_eq]

end Sys2Proof.Proofs
end
